-- ==== Sys2Proof/Word.lean ====
section
/-! DEFINITION. The widths of the machine's values (00_scope.md rule R10). -/

namespace Sys2Proof

/-- The 8-bit registers, and the one byte a bus access moves. -/
abbrev Byte := BitVec 8

/-- The program counter and a CPU-bus address. -/
abbrev Word := BitVec 16

end Sys2Proof
end

