-- ==== Sys2Proof/Config.lean ====
section
/-! DEFINITION. The parameters the spec leaves open (00_scope.md rule R13) and the free values of the model.

A parameter is fixed while the machine runs.  The spec's model takes the parameters as arguments; here they stand in
one record of the state (`State.params`), which no step changes, so that a statement over every state holds for every
value of every parameter. -/

namespace Sys2Proof

/-- `P_PPU_OPEN_BUS` (rule R13, 92_eei_decisions.md D12): what a read of a write-only PPU register returns.  Either one
fixed byte, or, on the reading D12 and 93_implementation_defined.md I11 call sound, a new free value at each read. -/
inductive OpenBus where
  | fixed (b : Byte)
  | draw
  deriving DecidableEq, Repr

/-- `P_CHR_ROM_WRITE` (rule R13, D22): what a PPU-bus write to CHR-ROM does. -/
inductive ChrRomWrite where
  | fault
  | ignore
  deriving DecidableEq, Repr

/-- `P_SPRITE_FLAGS` (rule R13, D37): whether the sprite-zero-hit and sprite-overflow bits may become set. -/
inductive SpriteFlags where
  | never
  | draw
  deriving DecidableEq, Repr

/-- The named parameters of rule R13.  The four initial memory contents are lists of address and byte, in the canonical
form of Sys2Proof/Machine/Memory.lean. -/
structure Params where
  /-- `P_EXTRA_NOPS`: whether the 28 bytes of 30_encoding.md rule R157 decode. -/
  extraNops : Bool
  /-- `P_RAM_INIT`. -/
  ramInit : List Host.Cell
  /-- `P_VRAM_INIT`. -/
  vramInit : List Host.Cell
  /-- `P_OAM_INIT`. -/
  oamInit : List Host.Cell
  /-- `P_PAL_INIT`. -/
  palInit : List Host.Cell
  /-- `P_PPU_OPEN_BUS`. -/
  openBus : OpenBus
  /-- `P_CHR_ROM_WRITE`. -/
  chrRomWrite : ChrRomWrite
  /-- `P_SPRITE_FLAGS`. -/
  spriteFlags : SpriteFlags
  deriving DecidableEq, Repr

/-- Free value (DESIGN CHOICE, log entry 4): the byte the n-th draw of an open-bus read returns.  It has no body, so
nothing can be proved of its value. -/
opaque Config.openBusDraw : Nat → Byte

/-- Free value (DESIGN CHOICE, log entry 5): whether the n-th draw sets the sprite-zero-hit bit (60_exceptions.md rule
R364, `draw`). -/
opaque Config.spriteZeroDraw : Nat → Bool

/-- Free value (DESIGN CHOICE, log entry 5): whether the n-th draw sets the sprite-overflow bit. -/
opaque Config.spriteOverflowDraw : Nat → Bool

end Sys2Proof
end

