-- ==== Sys2Proof/Machine/Memory.lean ====
section
/-! DEFINITION. A memory as plain data: the list of its address and byte pairs in one canonical form.

The machine has six byte memories, each with addresses of its own from 0: CPU RAM, PRG, CHR, nametable VRAM, OAM and
palette RAM (10_state.md rules R45, R50 to R52). -/

namespace Sys2Proof.Machine

/-- Address and byte pairs with rising addresses, none holding the byte an unlisted address reads as. -/
abbrev Memory := List Host.Cell

/-- What an unlisted address reads as (the conformance value of rule R13; log entry 6). -/
def unlistedByte : Byte := 0

/-- The byte at an address. -/
def Memory.read : Memory → Nat → Byte
  | [], _ => unlistedByte
  | (a, b) :: rest, k => if a = k then b else Memory.read rest k

/-- The cells of a byte at an address: none when it is the byte an unlisted address reads as. -/
def Memory.cell (k : Nat) (v : Byte) : Memory := if v = unlistedByte then [] else [(k, v)]

/-- The memory with one byte stored, in canonical form again. -/
def Memory.write : Memory → Nat → Byte → Memory
  | [], k, v => Memory.cell k v
  | (a, b) :: rest, k, v =>
    if k < a then Memory.cell k v ++ (a, b) :: rest
    else if k = a then Memory.cell k v ++ rest
    else (a, b) :: Memory.write rest k v

/-- Addresses rise strictly from at least `lo`, lie below `size`, and no listed byte is the unlisted one. -/
def Memory.wfFrom (size : Nat) : Nat → Memory → Bool
  | _, [] => true
  | lo, (a, b) :: rest => decide (lo ≤ a) && decide (a < size) && (b != unlistedByte) && Memory.wfFrom size (a + 1) rest

/-- The canonical form of a memory of `size` bytes. -/
def Memory.wf (size : Nat) (m : Memory) : Bool := Memory.wfFrom size 0 m

/-- The canonical list of consecutive bytes from address `k`. -/
def Memory.ofBytesFrom : Nat → List Byte → Memory
  | _, [] => []
  | k, b :: rest => Memory.cell k b ++ Memory.ofBytesFrom (k + 1) rest

/-- The memory that holds a list of bytes from address 0. -/
def Memory.ofBytes (bytes : List Byte) : Memory := Memory.ofBytesFrom 0 bytes

end Sys2Proof.Machine
end

