-- ==== Sys2Proof/Machine/Parameters.lean ====
section
/-! DEFINITION. The parameter values the reset state stands in.  They are the model's choice, since rule R13 leaves
them open; every statement over all states holds for every other value as well. -/

namespace Sys2Proof.Machine

/-- The parameters at `State.reset` (DESIGN CHOICE, log entry 3): every row of the opcode table decodes, a CHR-ROM write
is ignored, an open-bus read is a free value, memories start as zeros and no rule sets the sprite flags. -/
def paramsAtReset : Params where
  extraNops := true
  ramInit := []
  vramInit := []
  oamInit := []
  palInit := []
  openBus := .draw
  chrRomWrite := .ignore
  spriteFlags := .never

/-- The conformance configuration of rule R13, which 95_test_vectors.md uses. -/
def conformanceParams : Params where
  extraNops := false
  ramInit := []
  vramInit := []
  oamInit := []
  palInit := []
  openBus := .fixed 0
  chrRomWrite := .fault
  spriteFlags := .never

end Sys2Proof.Machine
end

