-- ==== Sys2Proof/Machine/State.lean ====
section
/-! DEFINITION. The state of the console: everything 10_state.md gives it (rules R30 to R53), as plain data. -/

namespace Sys2Proof.Machine

/-- A request the interrupt latch can hold (rule R40); BRK is an instruction and is never latched. -/
inductive Interrupt where
  | irq
  | nmi
  | reset
  deriving DecidableEq, Repr

/-- The kind of a bus access (rule R41). -/
inductive Access where
  | read
  | write
  deriving DecidableEq, Repr

/-- The fault record (rule R41): what went wrong and the PC at the start of the instruction or service (D38).  The
address of a bus fault is the CPU address, or the PPU address of a write to CHR-ROM (60_exceptions.md rule R342). -/
inductive FaultRecord where
  | decode (opcode : Byte) (pc : Word)
  | bus (kind : Access) (addr : Word) (pc : Word)
  deriving DecidableEq, Repr

/-- Nametable mirroring, header byte 6 bit 0 (rules R52, R122). -/
inductive Mirroring where
  | horizontal
  | vertical
  deriving DecidableEq, Repr

/-- The two lengths PRG can have: 16384 and 32768 bytes (rules R52, R131). -/
inductive PrgSize where
  | kb16
  | kb32
  deriving DecidableEq, Repr

/-- An inserted cartridge (rule R52). -/
structure Cartridge where
  /-- `PRG`, immutable. -/
  prg : Memory
  /-- The length of `PRG`. -/
  prgSize : PrgSize
  /-- `CHR`: ROM, or 8192 bytes of RAM when `chrIsRam`. -/
  chr : Memory
  /-- The length of `CHR` in bytes. -/
  chrLen : Nat
  /-- `chr_is_ram`. -/
  chrIsRam : Bool
  /-- `mirroring`. -/
  mirroring : Mirroring
  deriving DecidableEq, Repr

/-- The PPU's registers, counters and memories (rules R42 to R50). -/
structure Ppu where
  /-- Control register, $2000 (rule R42). -/
  ctrl : Byte
  /-- Mask register, $2001 (rule R43). -/
  mask : Byte
  /-- Status register, $2002 (rule R44). -/
  status : Byte
  /-- OAM address (rule R45). -/
  oamaddr : Byte
  /-- Object attribute memory, 256 bytes (rule R45). -/
  oam : Memory
  /-- Current VRAM address (rule R46). -/
  v : BitVec 15
  /-- Temporary VRAM address (rule R46). -/
  t : BitVec 15
  /-- Fine X scroll (rule R46). -/
  x : BitVec 3
  /-- Write toggle (rule R46). -/
  w : Bool
  /-- PPUDATA read buffer (rule R47). -/
  rdbuf : Byte
  /-- Dot counter, 0 to 340 (rule R48). -/
  dot : Nat
  /-- Scanline counter, 0 to 261 (rule R48). -/
  scanline : Nat
  /-- NMI request flag (rule R49). -/
  nmiReq : Bool
  /-- Nametable VRAM, 2048 bytes (rule R50). -/
  vram : Memory
  /-- Palette RAM, 32 bytes (rule R50). -/
  pal : Memory
  deriving DecidableEq, Repr

/-- The console's whole state (rule R53), with the parameters it runs under and the model's own draw counter. -/
structure State where
  /-- Accumulator (rule R30). -/
  a : Byte
  /-- Index register X (rule R30). -/
  x : Byte
  /-- Index register Y (rule R30). -/
  y : Byte
  /-- Stack pointer `S` (rule R31). -/
  sp : Byte
  /-- Flag register `P` (rule R34). -/
  p : Byte
  /-- Program counter (rule R32). -/
  pc : Word
  /-- Cycle counter `CYC` (rule R39). -/
  cyc : BitVec 64
  /-- Interrupt latch `IRQL` (rule R40); `none` is the spec's None. -/
  irql : Option Interrupt
  /-- Fault record `FAULT` (rule R41). -/
  fault : Option FaultRecord
  /-- Internal CPU RAM, 2048 bytes (rule R51). -/
  ram : Memory
  /-- The PPU. -/
  ppu : Ppu
  /-- The cartridge; `none` until one is inserted (rule R52). -/
  cart : Option Cartridge
  /-- The parameters of rule R13. -/
  params : Params
  /-- The model's own field, not the spec's: how many free values have been drawn (log entry 4). -/
  draws : Nat
  deriving DecidableEq, Repr

/-- How the machine stops with a fault.  The first two are the faults of 60_exceptions.md rules R341 and R342; each
carries the state it leaves, which rule R340 describes: the accesses and register writes before the fault have
happened and `FAULT` is set. -/
inductive Fault where
  /-- Raised by the fetch of an opcode byte that does not decode (rule R341).  Safe: the spec's own fault. -/
  | decodeFault (opcode : Byte) (pc : Word) (left : State)
  /-- Raised by a bus access that no route matches (rule R342).  Safe: the spec's own fault. -/
  | busFault (kind : Access) (addr : Word) (pc : Word) (left : State)
  /-- Raised by a step after a fault: the machine is stuck, no later step exists (rule R340, I15).  Safe. -/
  | stopped (record : FaultRecord)
  deriving DecidableEq, Repr

/-- Why a step has no meaning. -/
inductive Refusal where
  /-- Raised by an arm of `exec` whose instruction has no meaning yet.  Safe: the model stops. -/
  | notModelled (mnemonic : String)
  /-- Raised by a step with no cartridge inserted, which the spec refuses (D41, I14).  Safe: the spec's own refusal. -/
  | noCartridge
  deriving DecidableEq, Repr

/-- `power_up()` of 70_reset_and_hazards.md rule R390 for a machine with given parameters and cartridge. -/
def State.powerUp (params : Params) (cart : Option Cartridge) : State where
  a := 0
  x := 0
  y := 0
  sp := 0
  p := 0x20
  pc := 0
  cyc := 0
  irql := some .reset
  fault := none
  ram := params.ramInit
  ppu :=
    { ctrl := 0, mask := 0, status := 0, oamaddr := 0, oam := params.oamInit, v := 0, t := 0, x := 0, w := false,
      rdbuf := 0, dot := 0, scanline := 0, nmiReq := false, vram := params.vramInit, pal := params.palInit }
  cart := cart.map fun c => if c.chrIsRam then { c with chr := [] } else c
  params := params
  draws := 0

/-- The machine right after power-up: every value rule R390 gives, Reset latched, no cartridge inserted yet. -/
def State.reset : State := State.powerUp paramsAtReset none

/-- The result of an operation: a value and the next state, or a fault record and the state the fault leaves. -/
inductive Result (α : Type) where
  | ok (a : α) (s : State)
  | fault (r : FaultRecord) (s : State)
  deriving DecidableEq, Repr

end Sys2Proof.Machine
end

