-- ==== Sys2Proof/Machine/Cartridge.lean ====
section
/-! DEFINITION. Parsing an iNES image into a cartridge (20_memory.md rules R130 to R134). -/

namespace Sys2Proof.Machine

/-- Why an image is refused (rule R134). -/
inductive ParseFault where
  | truncated
  | badMagic
  | unsupportedPrg
  | unsupportedMirroring
  | unsupportedMapper
  deriving DecidableEq, Repr

/-- The magic constant `4E 45 53 1A` (rule R130). -/
def inesMagic : List Byte := [0x4E, 0x45, 0x53, 0x1A]

/-- Byte `k` of an image. -/
def imageByte (bytes : List Byte) (k : Nat) : Byte := bytes.getD k 0

/-- The length of the trainer the header declares: 512 bytes when byte 6 bit 2 is set (rule R130). -/
def trainerLength (bytes : List Byte) : Nat := if (imageByte bytes 6).getLsbD 2 then 512 else 0

/-- The PRG length the header declares (rule R11). -/
def prgLength (bytes : List Byte) : Nat := 16384 * (imageByte bytes 4).toNat

/-- The length of the CHR block the image holds (rule R11). -/
def chrLength (bytes : List Byte) : Nat := 8192 * (imageByte bytes 5).toNat

/-- The mapper number `(bytes[7] & 0xF0) | (bytes[6] >> 4)` (rule R134). -/
def mapperNumber (bytes : List Byte) : Byte := (imageByte bytes 7 &&& 0xF0) ||| imageByte bytes 6 >>> 4

/-- The PRG size of byte 4: 1 or 2 units (rule R134). -/
def prgSizeOf (units : Byte) : Option PrgSize :=
  if units = 1 then some .kb16 else if units = 2 then some .kb32 else none

/-- The cartridge an accepted image holds (rules R130, R132, R133). -/
def sliceCartridge (bytes : List Byte) (size : PrgSize) : Cartridge :=
  let body := bytes.drop (16 + trainerLength bytes)
  let chrIsRam := imageByte bytes 5 == 0
  { prg := Memory.ofBytes (body.take (prgLength bytes))
    prgSize := size
    chr := if chrIsRam then [] else Memory.ofBytes ((body.drop (prgLength bytes)).take (chrLength bytes))
    chrLen := if chrIsRam then 8192 else chrLength bytes
    chrIsRam := chrIsRam
    mirroring := if (imageByte bytes 6).getLsbD 0 then .vertical else .horizontal }

/-- `parse(bytes)` with the refusals of rule R134, in the order that rule names them; the length of the declared
contents is checked last (log entry 9). -/
def parse (bytes : List Byte) : Except ParseFault Cartridge :=
  if bytes.length < 16 then .error .truncated
  else if bytes.take 4 ≠ inesMagic then .error .badMagic
  else match prgSizeOf (imageByte bytes 4) with
    | none => .error .unsupportedPrg
    | some size =>
      if (imageByte bytes 6).getLsbD 3 then .error .unsupportedMirroring
      else if mapperNumber bytes ≠ 0 then .error .unsupportedMapper
      else if bytes.length < 16 + trainerLength bytes + prgLength bytes + chrLength bytes then .error .truncated
      else .ok (sliceCartridge bytes size)

end Sys2Proof.Machine
end

