-- ==== Sys2Proof/Syntax.lean ====
section
/-! DEFINITION. The instructions as syntax: one constructor per row of spec/opcode_table.json, in the table's order.

A constructor is named after the row's mnemonic and addressing mode (30_encoding.md rules R151, R162): `Acc`
accumulator, `Imm` immediate, `Zp`, `ZpX`, `ZpY` zero page, `Abs`, `AbsX`, `AbsY` absolute, `Ind` indirect, `IndX`
for (zp,X), `IndY` for (zp),Y; a mnemonic with one mode only has no suffix.  The rows that decode only when
P_EXTRA_NOPS is true (rule R157) end in their opcode byte.  Operands are the fields of rule R152: `imm`, `zp` one
byte, `addr`, `ptr` a 16-bit address, `off` a branch's signed offset. -/

namespace Sys2Proof

/-- One constructor per row of the opcode table (rule R154). -/
inductive Instr where
  /-- $00: BRK, rule R292. -/
  | brk
  /-- $01: ORA ($NN,X), rule R244. -/
  | oraIndX (zp : Byte)
  /-- $03: SLO ($NN,X), rule R325. -/
  | sloIndX (zp : Byte)
  /-- $04: NOP $NN, rule R329. -/
  | nopZp04 (zp : Byte)
  /-- $05: ORA $NN, rule R244. -/
  | oraZp (zp : Byte)
  /-- $06: ASL $NN, rule R271. -/
  | aslZp (zp : Byte)
  /-- $07: SLO $NN, rule R325. -/
  | sloZp (zp : Byte)
  /-- $08: PHP, rule R301. -/
  | php
  /-- $09: ORA #$NN, rule R244. -/
  | oraImm (imm : Byte)
  /-- $0A: ASL A, rule R271. -/
  | aslAcc
  /-- $0C: NOP $NNNN, rule R329. -/
  | nopAbs0C (addr : Word)
  /-- $0D: ORA $NNNN, rule R244. -/
  | oraAbs (addr : Word)
  /-- $0E: ASL $NNNN, rule R271. -/
  | aslAbs (addr : Word)
  /-- $0F: SLO $NNNN, rule R325. -/
  | sloAbs (addr : Word)
  /-- $10: BPL $NNNN, rule R286. -/
  | bpl (off : Int)
  /-- $11: ORA ($NN),Y, rule R244. -/
  | oraIndY (zp : Byte)
  /-- $13: SLO ($NN),Y, rule R325. -/
  | sloIndY (zp : Byte)
  /-- $14: NOP $NN,X, rule R329. -/
  | nopZpX14 (zp : Byte)
  /-- $15: ORA $NN,X, rule R244. -/
  | oraZpX (zp : Byte)
  /-- $16: ASL $NN,X, rule R271. -/
  | aslZpX (zp : Byte)
  /-- $17: SLO $NN,X, rule R325. -/
  | sloZpX (zp : Byte)
  /-- $18: CLC, rule R304. -/
  | clc
  /-- $19: ORA $NNNN,Y, rule R244. -/
  | oraAbsY (addr : Word)
  /-- $1A: NOP, rule R329. -/
  | nopImp1A
  /-- $1B: SLO $NNNN,Y, rule R325. -/
  | sloAbsY (addr : Word)
  /-- $1C: NOP $NNNN,X, rule R329. -/
  | nopAbsX1C (addr : Word)
  /-- $1D: ORA $NNNN,X, rule R244. -/
  | oraAbsX (addr : Word)
  /-- $1E: ASL $NNNN,X, rule R271. -/
  | aslAbsX (addr : Word)
  /-- $1F: SLO $NNNN,X, rule R325. -/
  | sloAbsX (addr : Word)
  /-- $20: JSR $NNNN, rule R290. -/
  | jsr (addr : Word)
  /-- $21: AND ($NN,X), rule R243. -/
  | andIndX (zp : Byte)
  /-- $23: RLA ($NN,X), rule R326. -/
  | rlaIndX (zp : Byte)
  /-- $24: BIT $NN, rule R246. -/
  | bitZp (zp : Byte)
  /-- $25: AND $NN, rule R243. -/
  | andZp (zp : Byte)
  /-- $26: ROL $NN, rule R273. -/
  | rolZp (zp : Byte)
  /-- $27: RLA $NN, rule R326. -/
  | rlaZp (zp : Byte)
  /-- $28: PLP, rule R303. -/
  | plp
  /-- $29: AND #$NN, rule R243. -/
  | andImm (imm : Byte)
  /-- $2A: ROL A, rule R273. -/
  | rolAcc
  /-- $2C: BIT $NNNN, rule R246. -/
  | bitAbs (addr : Word)
  /-- $2D: AND $NNNN, rule R243. -/
  | andAbs (addr : Word)
  /-- $2E: ROL $NNNN, rule R273. -/
  | rolAbs (addr : Word)
  /-- $2F: RLA $NNNN, rule R326. -/
  | rlaAbs (addr : Word)
  /-- $30: BMI $NNNN, rule R284. -/
  | bmi (off : Int)
  /-- $31: AND ($NN),Y, rule R243. -/
  | andIndY (zp : Byte)
  /-- $33: RLA ($NN),Y, rule R326. -/
  | rlaIndY (zp : Byte)
  /-- $34: NOP $NN,X, rule R329. -/
  | nopZpX34 (zp : Byte)
  /-- $35: AND $NN,X, rule R243. -/
  | andZpX (zp : Byte)
  /-- $36: ROL $NN,X, rule R273. -/
  | rolZpX (zp : Byte)
  /-- $37: RLA $NN,X, rule R326. -/
  | rlaZpX (zp : Byte)
  /-- $38: SEC, rule R305. -/
  | sec
  /-- $39: AND $NNNN,Y, rule R243. -/
  | andAbsY (addr : Word)
  /-- $3A: NOP, rule R329. -/
  | nopImp3A
  /-- $3B: RLA $NNNN,Y, rule R326. -/
  | rlaAbsY (addr : Word)
  /-- $3C: NOP $NNNN,X, rule R329. -/
  | nopAbsX3C (addr : Word)
  /-- $3D: AND $NNNN,X, rule R243. -/
  | andAbsX (addr : Word)
  /-- $3E: ROL $NNNN,X, rule R273. -/
  | rolAbsX (addr : Word)
  /-- $3F: RLA $NNNN,X, rule R326. -/
  | rlaAbsX (addr : Word)
  /-- $40: RTI, rule R293. -/
  | rti
  /-- $41: EOR ($NN,X), rule R245. -/
  | eorIndX (zp : Byte)
  /-- $43: SRE ($NN,X), rule R327. -/
  | sreIndX (zp : Byte)
  /-- $44: NOP $NN, rule R329. -/
  | nopZp44 (zp : Byte)
  /-- $45: EOR $NN, rule R245. -/
  | eorZp (zp : Byte)
  /-- $46: LSR $NN, rule R272. -/
  | lsrZp (zp : Byte)
  /-- $47: SRE $NN, rule R327. -/
  | sreZp (zp : Byte)
  /-- $48: PHA, rule R300. -/
  | pha
  /-- $49: EOR #$NN, rule R245. -/
  | eorImm (imm : Byte)
  /-- $4A: LSR A, rule R272. -/
  | lsrAcc
  /-- $4C: JMP $NNNN, rule R289. -/
  | jmpAbs (addr : Word)
  /-- $4D: EOR $NNNN, rule R245. -/
  | eorAbs (addr : Word)
  /-- $4E: LSR $NNNN, rule R272. -/
  | lsrAbs (addr : Word)
  /-- $4F: SRE $NNNN, rule R327. -/
  | sreAbs (addr : Word)
  /-- $50: BVC $NNNN, rule R287. -/
  | bvc (off : Int)
  /-- $51: EOR ($NN),Y, rule R245. -/
  | eorIndY (zp : Byte)
  /-- $53: SRE ($NN),Y, rule R327. -/
  | sreIndY (zp : Byte)
  /-- $54: NOP $NN,X, rule R329. -/
  | nopZpX54 (zp : Byte)
  /-- $55: EOR $NN,X, rule R245. -/
  | eorZpX (zp : Byte)
  /-- $56: LSR $NN,X, rule R272. -/
  | lsrZpX (zp : Byte)
  /-- $57: SRE $NN,X, rule R327. -/
  | sreZpX (zp : Byte)
  /-- $58: CLI, rule R306. -/
  | cli
  /-- $59: EOR $NNNN,Y, rule R245. -/
  | eorAbsY (addr : Word)
  /-- $5A: NOP, rule R329. -/
  | nopImp5A
  /-- $5B: SRE $NNNN,Y, rule R327. -/
  | sreAbsY (addr : Word)
  /-- $5C: NOP $NNNN,X, rule R329. -/
  | nopAbsX5C (addr : Word)
  /-- $5D: EOR $NNNN,X, rule R245. -/
  | eorAbsX (addr : Word)
  /-- $5E: LSR $NNNN,X, rule R272. -/
  | lsrAbsX (addr : Word)
  /-- $5F: SRE $NNNN,X, rule R327. -/
  | sreAbsX (addr : Word)
  /-- $60: RTS, rule R291. -/
  | rts
  /-- $61: ADC ($NN,X), rule R241. -/
  | adcIndX (zp : Byte)
  /-- $63: RRA ($NN,X), rule R328. -/
  | rraIndX (zp : Byte)
  /-- $64: NOP $NN, rule R329. -/
  | nopZp64 (zp : Byte)
  /-- $65: ADC $NN, rule R241. -/
  | adcZp (zp : Byte)
  /-- $66: ROR $NN, rule R274. -/
  | rorZp (zp : Byte)
  /-- $67: RRA $NN, rule R328. -/
  | rraZp (zp : Byte)
  /-- $68: PLA, rule R302. -/
  | pla
  /-- $69: ADC #$NN, rule R241. -/
  | adcImm (imm : Byte)
  /-- $6A: ROR A, rule R274. -/
  | rorAcc
  /-- $6C: JMP ($NNNN), rule R289. -/
  | jmpInd (ptr : Word)
  /-- $6D: ADC $NNNN, rule R241. -/
  | adcAbs (addr : Word)
  /-- $6E: ROR $NNNN, rule R274. -/
  | rorAbs (addr : Word)
  /-- $6F: RRA $NNNN, rule R328. -/
  | rraAbs (addr : Word)
  /-- $70: BVS $NNNN, rule R288. -/
  | bvs (off : Int)
  /-- $71: ADC ($NN),Y, rule R241. -/
  | adcIndY (zp : Byte)
  /-- $73: RRA ($NN),Y, rule R328. -/
  | rraIndY (zp : Byte)
  /-- $74: NOP $NN,X, rule R329. -/
  | nopZpX74 (zp : Byte)
  /-- $75: ADC $NN,X, rule R241. -/
  | adcZpX (zp : Byte)
  /-- $76: ROR $NN,X, rule R274. -/
  | rorZpX (zp : Byte)
  /-- $77: RRA $NN,X, rule R328. -/
  | rraZpX (zp : Byte)
  /-- $78: SEI, rule R307. -/
  | sei
  /-- $79: ADC $NNNN,Y, rule R241. -/
  | adcAbsY (addr : Word)
  /-- $7A: NOP, rule R329. -/
  | nopImp7A
  /-- $7B: RRA $NNNN,Y, rule R328. -/
  | rraAbsY (addr : Word)
  /-- $7C: NOP $NNNN,X, rule R329. -/
  | nopAbsX7C (addr : Word)
  /-- $7D: ADC $NNNN,X, rule R241. -/
  | adcAbsX (addr : Word)
  /-- $7E: ROR $NNNN,X, rule R274. -/
  | rorAbsX (addr : Word)
  /-- $7F: RRA $NNNN,X, rule R328. -/
  | rraAbsX (addr : Word)
  /-- $80: NOP #$NN, rule R329. -/
  | nopImm80 (imm : Byte)
  /-- $81: STA ($NN,X), rule R223. -/
  | staIndX (zp : Byte)
  /-- $82: NOP #$NN, rule R329. -/
  | nopImm82 (imm : Byte)
  /-- $83: SAX ($NN,X), rule R322. -/
  | saxIndX (zp : Byte)
  /-- $84: STY $NN, rule R225. -/
  | styZp (zp : Byte)
  /-- $85: STA $NN, rule R223. -/
  | staZp (zp : Byte)
  /-- $86: STX $NN, rule R224. -/
  | stxZp (zp : Byte)
  /-- $87: SAX $NN, rule R322. -/
  | saxZp (zp : Byte)
  /-- $88: DEY, rule R256. -/
  | dey
  /-- $89: NOP #$NN, rule R329. -/
  | nopImm89 (imm : Byte)
  /-- $8A: TXA, rule R229. -/
  | txa
  /-- $8C: STY $NNNN, rule R225. -/
  | styAbs (addr : Word)
  /-- $8D: STA $NNNN, rule R223. -/
  | staAbs (addr : Word)
  /-- $8E: STX $NNNN, rule R224. -/
  | stxAbs (addr : Word)
  /-- $8F: SAX $NNNN, rule R322. -/
  | saxAbs (addr : Word)
  /-- $90: BCC $NNNN, rule R281. -/
  | bcc (off : Int)
  /-- $91: STA ($NN),Y, rule R223. -/
  | staIndY (zp : Byte)
  /-- $94: STY $NN,X, rule R225. -/
  | styZpX (zp : Byte)
  /-- $95: STA $NN,X, rule R223. -/
  | staZpX (zp : Byte)
  /-- $96: STX $NN,Y, rule R224. -/
  | stxZpY (zp : Byte)
  /-- $97: SAX $NN,Y, rule R322. -/
  | saxZpY (zp : Byte)
  /-- $98: TYA, rule R231. -/
  | tya
  /-- $99: STA $NNNN,Y, rule R223. -/
  | staAbsY (addr : Word)
  /-- $9A: TXS, rule R230. -/
  | txs
  /-- $9D: STA $NNNN,X, rule R223. -/
  | staAbsX (addr : Word)
  /-- $A0: LDY #$NN, rule R222. -/
  | ldyImm (imm : Byte)
  /-- $A1: LDA ($NN,X), rule R220. -/
  | ldaIndX (zp : Byte)
  /-- $A2: LDX #$NN, rule R221. -/
  | ldxImm (imm : Byte)
  /-- $A3: LAX ($NN,X), rule R321. -/
  | laxIndX (zp : Byte)
  /-- $A4: LDY $NN, rule R222. -/
  | ldyZp (zp : Byte)
  /-- $A5: LDA $NN, rule R220. -/
  | ldaZp (zp : Byte)
  /-- $A6: LDX $NN, rule R221. -/
  | ldxZp (zp : Byte)
  /-- $A7: LAX $NN, rule R321. -/
  | laxZp (zp : Byte)
  /-- $A8: TAY, rule R227. -/
  | tay
  /-- $A9: LDA #$NN, rule R220. -/
  | ldaImm (imm : Byte)
  /-- $AA: TAX, rule R226. -/
  | tax
  /-- $AC: LDY $NNNN, rule R222. -/
  | ldyAbs (addr : Word)
  /-- $AD: LDA $NNNN, rule R220. -/
  | ldaAbs (addr : Word)
  /-- $AE: LDX $NNNN, rule R221. -/
  | ldxAbs (addr : Word)
  /-- $AF: LAX $NNNN, rule R321. -/
  | laxAbs (addr : Word)
  /-- $B0: BCS $NNNN, rule R282. -/
  | bcs (off : Int)
  /-- $B1: LDA ($NN),Y, rule R220. -/
  | ldaIndY (zp : Byte)
  /-- $B3: LAX ($NN),Y, rule R321. -/
  | laxIndY (zp : Byte)
  /-- $B4: LDY $NN,X, rule R222. -/
  | ldyZpX (zp : Byte)
  /-- $B5: LDA $NN,X, rule R220. -/
  | ldaZpX (zp : Byte)
  /-- $B6: LDX $NN,Y, rule R221. -/
  | ldxZpY (zp : Byte)
  /-- $B7: LAX $NN,Y, rule R321. -/
  | laxZpY (zp : Byte)
  /-- $B8: CLV, rule R310. -/
  | clv
  /-- $B9: LDA $NNNN,Y, rule R220. -/
  | ldaAbsY (addr : Word)
  /-- $BA: TSX, rule R228. -/
  | tsx
  /-- $BC: LDY $NNNN,X, rule R222. -/
  | ldyAbsX (addr : Word)
  /-- $BD: LDA $NNNN,X, rule R220. -/
  | ldaAbsX (addr : Word)
  /-- $BE: LDX $NNNN,Y, rule R221. -/
  | ldxAbsY (addr : Word)
  /-- $BF: LAX $NNNN,Y, rule R321. -/
  | laxAbsY (addr : Word)
  /-- $C0: CPY #$NN, rule R250. -/
  | cpyImm (imm : Byte)
  /-- $C1: CMP ($NN,X), rule R248. -/
  | cmpIndX (zp : Byte)
  /-- $C2: NOP #$NN, rule R329. -/
  | nopImmC2 (imm : Byte)
  /-- $C3: DCP ($NN,X), rule R323. -/
  | dcpIndX (zp : Byte)
  /-- $C4: CPY $NN, rule R250. -/
  | cpyZp (zp : Byte)
  /-- $C5: CMP $NN, rule R248. -/
  | cmpZp (zp : Byte)
  /-- $C6: DEC $NN, rule R252. -/
  | decZp (zp : Byte)
  /-- $C7: DCP $NN, rule R323. -/
  | dcpZp (zp : Byte)
  /-- $C8: INY, rule R254. -/
  | iny
  /-- $C9: CMP #$NN, rule R248. -/
  | cmpImm (imm : Byte)
  /-- $CA: DEX, rule R255. -/
  | dex
  /-- $CC: CPY $NNNN, rule R250. -/
  | cpyAbs (addr : Word)
  /-- $CD: CMP $NNNN, rule R248. -/
  | cmpAbs (addr : Word)
  /-- $CE: DEC $NNNN, rule R252. -/
  | decAbs (addr : Word)
  /-- $CF: DCP $NNNN, rule R323. -/
  | dcpAbs (addr : Word)
  /-- $D0: BNE $NNNN, rule R285. -/
  | bne (off : Int)
  /-- $D1: CMP ($NN),Y, rule R248. -/
  | cmpIndY (zp : Byte)
  /-- $D3: DCP ($NN),Y, rule R323. -/
  | dcpIndY (zp : Byte)
  /-- $D4: NOP $NN,X, rule R329. -/
  | nopZpXD4 (zp : Byte)
  /-- $D5: CMP $NN,X, rule R248. -/
  | cmpZpX (zp : Byte)
  /-- $D6: DEC $NN,X, rule R252. -/
  | decZpX (zp : Byte)
  /-- $D7: DCP $NN,X, rule R323. -/
  | dcpZpX (zp : Byte)
  /-- $D8: CLD, rule R308. -/
  | cld
  /-- $D9: CMP $NNNN,Y, rule R248. -/
  | cmpAbsY (addr : Word)
  /-- $DA: NOP, rule R329. -/
  | nopImpDA
  /-- $DB: DCP $NNNN,Y, rule R323. -/
  | dcpAbsY (addr : Word)
  /-- $DC: NOP $NNNN,X, rule R329. -/
  | nopAbsXDC (addr : Word)
  /-- $DD: CMP $NNNN,X, rule R248. -/
  | cmpAbsX (addr : Word)
  /-- $DE: DEC $NNNN,X, rule R252. -/
  | decAbsX (addr : Word)
  /-- $DF: DCP $NNNN,X, rule R323. -/
  | dcpAbsX (addr : Word)
  /-- $E0: CPX #$NN, rule R249. -/
  | cpxImm (imm : Byte)
  /-- $E1: SBC ($NN,X), rule R242. -/
  | sbcIndX (zp : Byte)
  /-- $E2: NOP #$NN, rule R329. -/
  | nopImmE2 (imm : Byte)
  /-- $E3: ISC ($NN,X), rule R324. -/
  | iscIndX (zp : Byte)
  /-- $E4: CPX $NN, rule R249. -/
  | cpxZp (zp : Byte)
  /-- $E5: SBC $NN, rule R242. -/
  | sbcZp (zp : Byte)
  /-- $E6: INC $NN, rule R251. -/
  | incZp (zp : Byte)
  /-- $E7: ISC $NN, rule R324. -/
  | iscZp (zp : Byte)
  /-- $E8: INX, rule R253. -/
  | inx
  /-- $E9: SBC #$NN, rule R242. -/
  | sbcImm (imm : Byte)
  /-- $EA: NOP, rule R294. -/
  | nop
  /-- $EB: SBC #$NN, rule R330. -/
  | sbcImmEB (imm : Byte)
  /-- $EC: CPX $NNNN, rule R249. -/
  | cpxAbs (addr : Word)
  /-- $ED: SBC $NNNN, rule R242. -/
  | sbcAbs (addr : Word)
  /-- $EE: INC $NNNN, rule R251. -/
  | incAbs (addr : Word)
  /-- $EF: ISC $NNNN, rule R324. -/
  | iscAbs (addr : Word)
  /-- $F0: BEQ $NNNN, rule R283. -/
  | beq (off : Int)
  /-- $F1: SBC ($NN),Y, rule R242. -/
  | sbcIndY (zp : Byte)
  /-- $F3: ISC ($NN),Y, rule R324. -/
  | iscIndY (zp : Byte)
  /-- $F4: NOP $NN,X, rule R329. -/
  | nopZpXF4 (zp : Byte)
  /-- $F5: SBC $NN,X, rule R242. -/
  | sbcZpX (zp : Byte)
  /-- $F6: INC $NN,X, rule R251. -/
  | incZpX (zp : Byte)
  /-- $F7: ISC $NN,X, rule R324. -/
  | iscZpX (zp : Byte)
  /-- $F8: SED, rule R309. -/
  | sed
  /-- $F9: SBC $NNNN,Y, rule R242. -/
  | sbcAbsY (addr : Word)
  /-- $FA: NOP, rule R329. -/
  | nopImpFA
  /-- $FB: ISC $NNNN,Y, rule R324. -/
  | iscAbsY (addr : Word)
  /-- $FC: NOP $NNNN,X, rule R329. -/
  | nopAbsXFC (addr : Word)
  /-- $FD: SBC $NNNN,X, rule R242. -/
  | sbcAbsX (addr : Word)
  /-- $FE: INC $NNNN,X, rule R251. -/
  | incAbsX (addr : Word)
  /-- $FF: ISC $NNNN,X, rule R324. -/
  | iscAbsX (addr : Word)
  deriving DecidableEq, Repr

end Sys2Proof
end

