-- ==== Sys2Proof/WellFormed.lean ====
section
/-! DEFINITION. Which instruction terms are instructions of the machine.

A byte or address operand is a bit vector of its encoded width, so it is always encodable.  A branch's offset is
held as the signed number rule R152 makes of `rel8`, so a term is ill-formed when its offset is outside the range
of eight signed bits. -/

namespace Sys2Proof

/-- `sext_8(rel8)` takes the values -128 to 127 (30_encoding.md rule R152). -/
def offsetInRange (off : Int) : Bool := decide (-128 ≤ off) && decide (off ≤ 127)

/-- The one check an instruction term must pass: a branch's offset fits its byte. -/
def Instr.wellFormed : Instr → Bool
  | .bpl off => offsetInRange off
  | .bmi off => offsetInRange off
  | .bvc off => offsetInRange off
  | .bvs off => offsetInRange off
  | .bcc off => offsetInRange off
  | .bcs off => offsetInRange off
  | .bne off => offsetInRange off
  | .beq off => offsetInRange off
  | .brk | .oraIndX _ | .sloIndX _ | .nopZp04 _ | .oraZp _ | .aslZp _ | .sloZp _ | .php | .oraImm _ | .aslAcc
  | .nopAbs0C _ | .oraAbs _ | .aslAbs _ | .sloAbs _ | .oraIndY _ | .sloIndY _ | .nopZpX14 _ | .oraZpX _
  | .aslZpX _ | .sloZpX _ | .clc | .oraAbsY _ | .nopImp1A | .sloAbsY _ | .nopAbsX1C _ | .oraAbsX _ | .aslAbsX _
  | .sloAbsX _ | .jsr _ | .andIndX _ | .rlaIndX _ | .bitZp _ | .andZp _ | .rolZp _ | .rlaZp _ | .plp
  | .andImm _ | .rolAcc | .bitAbs _ | .andAbs _ | .rolAbs _ | .rlaAbs _ | .andIndY _ | .rlaIndY _ | .nopZpX34 _
  | .andZpX _ | .rolZpX _ | .rlaZpX _ | .sec | .andAbsY _ | .nopImp3A | .rlaAbsY _ | .nopAbsX3C _ | .andAbsX _
  | .rolAbsX _ | .rlaAbsX _ | .rti | .eorIndX _ | .sreIndX _ | .nopZp44 _ | .eorZp _ | .lsrZp _ | .sreZp _
  | .pha | .eorImm _ | .lsrAcc | .jmpAbs _ | .eorAbs _ | .lsrAbs _ | .sreAbs _ | .eorIndY _ | .sreIndY _
  | .nopZpX54 _ | .eorZpX _ | .lsrZpX _ | .sreZpX _ | .cli | .eorAbsY _ | .nopImp5A | .sreAbsY _ | .nopAbsX5C _
  | .eorAbsX _ | .lsrAbsX _ | .sreAbsX _ | .rts | .adcIndX _ | .rraIndX _ | .nopZp64 _ | .adcZp _ | .rorZp _
  | .rraZp _ | .pla | .adcImm _ | .rorAcc | .jmpInd _ | .adcAbs _ | .rorAbs _ | .rraAbs _ | .adcIndY _
  | .rraIndY _ | .nopZpX74 _ | .adcZpX _ | .rorZpX _ | .rraZpX _ | .sei | .adcAbsY _ | .nopImp7A | .rraAbsY _
  | .nopAbsX7C _ | .adcAbsX _ | .rorAbsX _ | .rraAbsX _ | .nopImm80 _ | .staIndX _ | .nopImm82 _ | .saxIndX _
  | .styZp _ | .staZp _ | .stxZp _ | .saxZp _ | .dey | .nopImm89 _ | .txa | .styAbs _ | .staAbs _ | .stxAbs _
  | .saxAbs _ | .staIndY _ | .styZpX _ | .staZpX _ | .stxZpY _ | .saxZpY _ | .tya | .staAbsY _ | .txs
  | .staAbsX _ | .ldyImm _ | .ldaIndX _ | .ldxImm _ | .laxIndX _ | .ldyZp _ | .ldaZp _ | .ldxZp _ | .laxZp _
  | .tay | .ldaImm _ | .tax | .ldyAbs _ | .ldaAbs _ | .ldxAbs _ | .laxAbs _ | .ldaIndY _ | .laxIndY _
  | .ldyZpX _ | .ldaZpX _ | .ldxZpY _ | .laxZpY _ | .clv | .ldaAbsY _ | .tsx | .ldyAbsX _ | .ldaAbsX _
  | .ldxAbsY _ | .laxAbsY _ | .cpyImm _ | .cmpIndX _ | .nopImmC2 _ | .dcpIndX _ | .cpyZp _ | .cmpZp _
  | .decZp _ | .dcpZp _ | .iny | .cmpImm _ | .dex | .cpyAbs _ | .cmpAbs _ | .decAbs _ | .dcpAbs _ | .cmpIndY _
  | .dcpIndY _ | .nopZpXD4 _ | .cmpZpX _ | .decZpX _ | .dcpZpX _ | .cld | .cmpAbsY _ | .nopImpDA | .dcpAbsY _
  | .nopAbsXDC _ | .cmpAbsX _ | .decAbsX _ | .dcpAbsX _ | .cpxImm _ | .sbcIndX _ | .nopImmE2 _ | .iscIndX _
  | .cpxZp _ | .sbcZp _ | .incZp _ | .iscZp _ | .inx | .sbcImm _ | .nop | .sbcImmEB _ | .cpxAbs _ | .sbcAbs _
  | .incAbs _ | .iscAbs _ | .sbcIndY _ | .iscIndY _ | .nopZpXF4 _ | .sbcZpX _ | .incZpX _ | .iscZpX _ | .sed
  | .sbcAbsY _ | .nopImpFA | .iscAbsY _ | .nopAbsXFC _ | .sbcAbsX _ | .incAbsX _ | .iscAbsX _ => true

end Sys2Proof
end

