-- ==== Sys2Proof/Decode.lean ====
section
/-! DEFINITION. The opcode table, the decoder and the encoder (30_encoding.md).

`Instr.entry` is the table read by instruction (the descriptor of rule R153); `opcodeMap` is the table read by
opcode byte (rule R154).  The decoder uses the second, the encoder the first. -/

namespace Sys2Proof

/-- The 56 official mnemonics and the 8 undocumented families (rules R153, R162). -/
inductive Mnemonic where
  | lda | ldx | ldy | sta | stx | sty | tax | tay | tsx | txa | txs | tya
  | adc | sbc | and | ora | eor | bit | cmp | cpx | cpy
  | inc | dec | inx | iny | dex | dey
  | asl | lsr | rol | ror
  | bcc | bcs | beq | bmi | bne | bpl | bvc | bvs
  | jmp | jsr | rts | brk | rti | nop
  | pha | php | pla | plp | clc | sec | cli | sei | cld | sed | clv
  | lax | sax | dcp | isc | slo | rla | sre | rra
  deriving DecidableEq, Repr

/-- The 13 addressing modes (rules R151, R153; the count is decision D1, conflict C6). -/
inductive Mode where
  | implied | accumulator | immediate | zeroPage | zeroPageX | zeroPageY | absolute | absoluteX | absoluteY
  | indirect | indirectX | indirectY | relative
  deriving DecidableEq, Repr

/-- The operand forms that name a memory address (40_addressing.md rules R185 to R191). -/
inductive MemOperand where
  | zeroPage (zp : Byte)
  | zeroPageX (zp : Byte)
  | zeroPageY (zp : Byte)
  | absolute (addr : Word)
  | absoluteX (addr : Word)
  | absoluteY (addr : Word)
  | indirect (ptr : Word)
  | indirectX (zp : Byte)
  | indirectY (zp : Byte)
  deriving DecidableEq, Repr

/-- An operand in any of the 13 modes. -/
inductive Operand where
  | implied
  | accumulator
  | immediate (imm : Byte)
  | mem (m : MemOperand)
  | relative (off : Int)
  deriving DecidableEq, Repr

/-- The instruction descriptor of rule R153.  Its mode and size follow from the operand, its `illegal` flag is
`Entry.illegal`; `optional` marks the rows of rule R157. -/
structure Entry where
  mnemonic : Mnemonic
  operand : Operand
  opcode : Byte
  baseCycles : Nat
  pageCrossAddsCycle : Bool
  optional : Bool
  deriving DecidableEq, Repr

/-- The low byte of a 16-bit value, which lies at the lower address (20_memory.md rule R85). -/
def lowByte (w : Word) : Byte := w.setWidth 8

/-- The high byte of a 16-bit value. -/
def highByte (w : Word) : Byte := (w >>> 8).setWidth 8

/-- `lo | (hi << 8)` (rule R152). -/
def wordOf (lo hi : Byte) : Word := hi.setWidth 16 <<< 8 ||| lo.setWidth 16

/-- The addressing mode of an operand. -/
def MemOperand.mode : MemOperand → Mode
  | .zeroPage _ => .zeroPage
  | .zeroPageX _ => .zeroPageX
  | .zeroPageY _ => .zeroPageY
  | .absolute _ => .absolute
  | .absoluteX _ => .absoluteX
  | .absoluteY _ => .absoluteY
  | .indirect _ => .indirect
  | .indirectX _ => .indirectX
  | .indirectY _ => .indirectY

/-- The addressing mode of an operand. -/
def Operand.mode : Operand → Mode
  | .implied => .implied
  | .accumulator => .accumulator
  | .immediate _ => .immediate
  | .mem m => m.mode
  | .relative _ => .relative

/-- Instruction size in bytes by addressing mode (rule R151). -/
def Mode.size : Mode → Nat
  | .implied => 1
  | .accumulator => 1
  | .immediate => 2
  | .zeroPage => 2
  | .zeroPageX => 2
  | .zeroPageY => 2
  | .relative => 2
  | .indirectX => 2
  | .indirectY => 2
  | .absolute => 3
  | .absoluteX => 3
  | .absoluteY => 3
  | .indirect => 3

/-- The encoded bytes of a memory operand, low byte first (rule R151). -/
def MemOperand.bytes : MemOperand → List Byte
  | .zeroPage zp => [zp]
  | .zeroPageX zp => [zp]
  | .zeroPageY zp => [zp]
  | .indirectX zp => [zp]
  | .indirectY zp => [zp]
  | .absolute addr => [lowByte addr, highByte addr]
  | .absoluteX addr => [lowByte addr, highByte addr]
  | .absoluteY addr => [lowByte addr, highByte addr]
  | .indirect ptr => [lowByte ptr, highByte ptr]

/-- The bytes that follow the opcode byte (rules R151, R152). -/
def Operand.bytes : Operand → List Byte
  | .implied => []
  | .accumulator => []
  | .immediate imm => [imm]
  | .mem m => m.bytes
  | .relative off => [BitVec.ofInt 8 off]

/-- The descriptor of each instruction: the opcode table of rules R154 and R162, one arm per row. -/
def Instr.entry : Instr → Entry
  | .brk => ⟨.brk, .implied, 0x00, 7, false, false⟩
  | .oraIndX zp => ⟨.ora, .mem (.indirectX zp), 0x01, 6, false, false⟩
  | .sloIndX zp => ⟨.slo, .mem (.indirectX zp), 0x03, 8, false, false⟩
  | .nopZp04 zp => ⟨.nop, .mem (.zeroPage zp), 0x04, 3, false, true⟩
  | .oraZp zp => ⟨.ora, .mem (.zeroPage zp), 0x05, 3, false, false⟩
  | .aslZp zp => ⟨.asl, .mem (.zeroPage zp), 0x06, 5, false, false⟩
  | .sloZp zp => ⟨.slo, .mem (.zeroPage zp), 0x07, 5, false, false⟩
  | .php => ⟨.php, .implied, 0x08, 3, false, false⟩
  | .oraImm imm => ⟨.ora, .immediate imm, 0x09, 2, false, false⟩
  | .aslAcc => ⟨.asl, .accumulator, 0x0A, 2, false, false⟩
  | .nopAbs0C addr => ⟨.nop, .mem (.absolute addr), 0x0C, 4, false, true⟩
  | .oraAbs addr => ⟨.ora, .mem (.absolute addr), 0x0D, 4, false, false⟩
  | .aslAbs addr => ⟨.asl, .mem (.absolute addr), 0x0E, 6, false, false⟩
  | .sloAbs addr => ⟨.slo, .mem (.absolute addr), 0x0F, 6, false, false⟩
  | .bpl off => ⟨.bpl, .relative off, 0x10, 2, false, false⟩
  | .oraIndY zp => ⟨.ora, .mem (.indirectY zp), 0x11, 5, true, false⟩
  | .sloIndY zp => ⟨.slo, .mem (.indirectY zp), 0x13, 8, false, false⟩
  | .nopZpX14 zp => ⟨.nop, .mem (.zeroPageX zp), 0x14, 4, false, true⟩
  | .oraZpX zp => ⟨.ora, .mem (.zeroPageX zp), 0x15, 4, false, false⟩
  | .aslZpX zp => ⟨.asl, .mem (.zeroPageX zp), 0x16, 6, false, false⟩
  | .sloZpX zp => ⟨.slo, .mem (.zeroPageX zp), 0x17, 6, false, false⟩
  | .clc => ⟨.clc, .implied, 0x18, 2, false, false⟩
  | .oraAbsY addr => ⟨.ora, .mem (.absoluteY addr), 0x19, 4, true, false⟩
  | .nopImp1A => ⟨.nop, .implied, 0x1A, 2, false, true⟩
  | .sloAbsY addr => ⟨.slo, .mem (.absoluteY addr), 0x1B, 7, false, false⟩
  | .nopAbsX1C addr => ⟨.nop, .mem (.absoluteX addr), 0x1C, 4, true, true⟩
  | .oraAbsX addr => ⟨.ora, .mem (.absoluteX addr), 0x1D, 4, true, false⟩
  | .aslAbsX addr => ⟨.asl, .mem (.absoluteX addr), 0x1E, 7, false, false⟩
  | .sloAbsX addr => ⟨.slo, .mem (.absoluteX addr), 0x1F, 7, false, false⟩
  | .jsr addr => ⟨.jsr, .mem (.absolute addr), 0x20, 6, false, false⟩
  | .andIndX zp => ⟨.and, .mem (.indirectX zp), 0x21, 6, false, false⟩
  | .rlaIndX zp => ⟨.rla, .mem (.indirectX zp), 0x23, 8, false, false⟩
  | .bitZp zp => ⟨.bit, .mem (.zeroPage zp), 0x24, 3, false, false⟩
  | .andZp zp => ⟨.and, .mem (.zeroPage zp), 0x25, 3, false, false⟩
  | .rolZp zp => ⟨.rol, .mem (.zeroPage zp), 0x26, 5, false, false⟩
  | .rlaZp zp => ⟨.rla, .mem (.zeroPage zp), 0x27, 5, false, false⟩
  | .plp => ⟨.plp, .implied, 0x28, 4, false, false⟩
  | .andImm imm => ⟨.and, .immediate imm, 0x29, 2, false, false⟩
  | .rolAcc => ⟨.rol, .accumulator, 0x2A, 2, false, false⟩
  | .bitAbs addr => ⟨.bit, .mem (.absolute addr), 0x2C, 4, false, false⟩
  | .andAbs addr => ⟨.and, .mem (.absolute addr), 0x2D, 4, false, false⟩
  | .rolAbs addr => ⟨.rol, .mem (.absolute addr), 0x2E, 6, false, false⟩
  | .rlaAbs addr => ⟨.rla, .mem (.absolute addr), 0x2F, 6, false, false⟩
  | .bmi off => ⟨.bmi, .relative off, 0x30, 2, false, false⟩
  | .andIndY zp => ⟨.and, .mem (.indirectY zp), 0x31, 5, true, false⟩
  | .rlaIndY zp => ⟨.rla, .mem (.indirectY zp), 0x33, 8, false, false⟩
  | .nopZpX34 zp => ⟨.nop, .mem (.zeroPageX zp), 0x34, 4, false, true⟩
  | .andZpX zp => ⟨.and, .mem (.zeroPageX zp), 0x35, 4, false, false⟩
  | .rolZpX zp => ⟨.rol, .mem (.zeroPageX zp), 0x36, 6, false, false⟩
  | .rlaZpX zp => ⟨.rla, .mem (.zeroPageX zp), 0x37, 6, false, false⟩
  | .sec => ⟨.sec, .implied, 0x38, 2, false, false⟩
  | .andAbsY addr => ⟨.and, .mem (.absoluteY addr), 0x39, 4, true, false⟩
  | .nopImp3A => ⟨.nop, .implied, 0x3A, 2, false, true⟩
  | .rlaAbsY addr => ⟨.rla, .mem (.absoluteY addr), 0x3B, 7, false, false⟩
  | .nopAbsX3C addr => ⟨.nop, .mem (.absoluteX addr), 0x3C, 4, true, true⟩
  | .andAbsX addr => ⟨.and, .mem (.absoluteX addr), 0x3D, 4, true, false⟩
  | .rolAbsX addr => ⟨.rol, .mem (.absoluteX addr), 0x3E, 7, false, false⟩
  | .rlaAbsX addr => ⟨.rla, .mem (.absoluteX addr), 0x3F, 7, false, false⟩
  | .rti => ⟨.rti, .implied, 0x40, 6, false, false⟩
  | .eorIndX zp => ⟨.eor, .mem (.indirectX zp), 0x41, 6, false, false⟩
  | .sreIndX zp => ⟨.sre, .mem (.indirectX zp), 0x43, 8, false, false⟩
  | .nopZp44 zp => ⟨.nop, .mem (.zeroPage zp), 0x44, 3, false, true⟩
  | .eorZp zp => ⟨.eor, .mem (.zeroPage zp), 0x45, 3, false, false⟩
  | .lsrZp zp => ⟨.lsr, .mem (.zeroPage zp), 0x46, 5, false, false⟩
  | .sreZp zp => ⟨.sre, .mem (.zeroPage zp), 0x47, 5, false, false⟩
  | .pha => ⟨.pha, .implied, 0x48, 3, false, false⟩
  | .eorImm imm => ⟨.eor, .immediate imm, 0x49, 2, false, false⟩
  | .lsrAcc => ⟨.lsr, .accumulator, 0x4A, 2, false, false⟩
  | .jmpAbs addr => ⟨.jmp, .mem (.absolute addr), 0x4C, 3, false, false⟩
  | .eorAbs addr => ⟨.eor, .mem (.absolute addr), 0x4D, 4, false, false⟩
  | .lsrAbs addr => ⟨.lsr, .mem (.absolute addr), 0x4E, 6, false, false⟩
  | .sreAbs addr => ⟨.sre, .mem (.absolute addr), 0x4F, 6, false, false⟩
  | .bvc off => ⟨.bvc, .relative off, 0x50, 2, false, false⟩
  | .eorIndY zp => ⟨.eor, .mem (.indirectY zp), 0x51, 5, true, false⟩
  | .sreIndY zp => ⟨.sre, .mem (.indirectY zp), 0x53, 8, false, false⟩
  | .nopZpX54 zp => ⟨.nop, .mem (.zeroPageX zp), 0x54, 4, false, true⟩
  | .eorZpX zp => ⟨.eor, .mem (.zeroPageX zp), 0x55, 4, false, false⟩
  | .lsrZpX zp => ⟨.lsr, .mem (.zeroPageX zp), 0x56, 6, false, false⟩
  | .sreZpX zp => ⟨.sre, .mem (.zeroPageX zp), 0x57, 6, false, false⟩
  | .cli => ⟨.cli, .implied, 0x58, 2, false, false⟩
  | .eorAbsY addr => ⟨.eor, .mem (.absoluteY addr), 0x59, 4, true, false⟩
  | .nopImp5A => ⟨.nop, .implied, 0x5A, 2, false, true⟩
  | .sreAbsY addr => ⟨.sre, .mem (.absoluteY addr), 0x5B, 7, false, false⟩
  | .nopAbsX5C addr => ⟨.nop, .mem (.absoluteX addr), 0x5C, 4, true, true⟩
  | .eorAbsX addr => ⟨.eor, .mem (.absoluteX addr), 0x5D, 4, true, false⟩
  | .lsrAbsX addr => ⟨.lsr, .mem (.absoluteX addr), 0x5E, 7, false, false⟩
  | .sreAbsX addr => ⟨.sre, .mem (.absoluteX addr), 0x5F, 7, false, false⟩
  | .rts => ⟨.rts, .implied, 0x60, 6, false, false⟩
  | .adcIndX zp => ⟨.adc, .mem (.indirectX zp), 0x61, 6, false, false⟩
  | .rraIndX zp => ⟨.rra, .mem (.indirectX zp), 0x63, 8, false, false⟩
  | .nopZp64 zp => ⟨.nop, .mem (.zeroPage zp), 0x64, 3, false, true⟩
  | .adcZp zp => ⟨.adc, .mem (.zeroPage zp), 0x65, 3, false, false⟩
  | .rorZp zp => ⟨.ror, .mem (.zeroPage zp), 0x66, 5, false, false⟩
  | .rraZp zp => ⟨.rra, .mem (.zeroPage zp), 0x67, 5, false, false⟩
  | .pla => ⟨.pla, .implied, 0x68, 4, false, false⟩
  | .adcImm imm => ⟨.adc, .immediate imm, 0x69, 2, false, false⟩
  | .rorAcc => ⟨.ror, .accumulator, 0x6A, 2, false, false⟩
  | .jmpInd ptr => ⟨.jmp, .mem (.indirect ptr), 0x6C, 5, false, false⟩
  | .adcAbs addr => ⟨.adc, .mem (.absolute addr), 0x6D, 4, false, false⟩
  | .rorAbs addr => ⟨.ror, .mem (.absolute addr), 0x6E, 6, false, false⟩
  | .rraAbs addr => ⟨.rra, .mem (.absolute addr), 0x6F, 6, false, false⟩
  | .bvs off => ⟨.bvs, .relative off, 0x70, 2, false, false⟩
  | .adcIndY zp => ⟨.adc, .mem (.indirectY zp), 0x71, 5, true, false⟩
  | .rraIndY zp => ⟨.rra, .mem (.indirectY zp), 0x73, 8, false, false⟩
  | .nopZpX74 zp => ⟨.nop, .mem (.zeroPageX zp), 0x74, 4, false, true⟩
  | .adcZpX zp => ⟨.adc, .mem (.zeroPageX zp), 0x75, 4, false, false⟩
  | .rorZpX zp => ⟨.ror, .mem (.zeroPageX zp), 0x76, 6, false, false⟩
  | .rraZpX zp => ⟨.rra, .mem (.zeroPageX zp), 0x77, 6, false, false⟩
  | .sei => ⟨.sei, .implied, 0x78, 2, false, false⟩
  | .adcAbsY addr => ⟨.adc, .mem (.absoluteY addr), 0x79, 4, true, false⟩
  | .nopImp7A => ⟨.nop, .implied, 0x7A, 2, false, true⟩
  | .rraAbsY addr => ⟨.rra, .mem (.absoluteY addr), 0x7B, 7, false, false⟩
  | .nopAbsX7C addr => ⟨.nop, .mem (.absoluteX addr), 0x7C, 4, true, true⟩
  | .adcAbsX addr => ⟨.adc, .mem (.absoluteX addr), 0x7D, 4, true, false⟩
  | .rorAbsX addr => ⟨.ror, .mem (.absoluteX addr), 0x7E, 7, false, false⟩
  | .rraAbsX addr => ⟨.rra, .mem (.absoluteX addr), 0x7F, 7, false, false⟩
  | .nopImm80 imm => ⟨.nop, .immediate imm, 0x80, 2, false, true⟩
  | .staIndX zp => ⟨.sta, .mem (.indirectX zp), 0x81, 6, false, false⟩
  | .nopImm82 imm => ⟨.nop, .immediate imm, 0x82, 2, false, true⟩
  | .saxIndX zp => ⟨.sax, .mem (.indirectX zp), 0x83, 6, false, false⟩
  | .styZp zp => ⟨.sty, .mem (.zeroPage zp), 0x84, 3, false, false⟩
  | .staZp zp => ⟨.sta, .mem (.zeroPage zp), 0x85, 3, false, false⟩
  | .stxZp zp => ⟨.stx, .mem (.zeroPage zp), 0x86, 3, false, false⟩
  | .saxZp zp => ⟨.sax, .mem (.zeroPage zp), 0x87, 3, false, false⟩
  | .dey => ⟨.dey, .implied, 0x88, 2, false, false⟩
  | .nopImm89 imm => ⟨.nop, .immediate imm, 0x89, 2, false, true⟩
  | .txa => ⟨.txa, .implied, 0x8A, 2, false, false⟩
  | .styAbs addr => ⟨.sty, .mem (.absolute addr), 0x8C, 4, false, false⟩
  | .staAbs addr => ⟨.sta, .mem (.absolute addr), 0x8D, 4, false, false⟩
  | .stxAbs addr => ⟨.stx, .mem (.absolute addr), 0x8E, 4, false, false⟩
  | .saxAbs addr => ⟨.sax, .mem (.absolute addr), 0x8F, 4, false, false⟩
  | .bcc off => ⟨.bcc, .relative off, 0x90, 2, false, false⟩
  | .staIndY zp => ⟨.sta, .mem (.indirectY zp), 0x91, 6, false, false⟩
  | .styZpX zp => ⟨.sty, .mem (.zeroPageX zp), 0x94, 4, false, false⟩
  | .staZpX zp => ⟨.sta, .mem (.zeroPageX zp), 0x95, 4, false, false⟩
  | .stxZpY zp => ⟨.stx, .mem (.zeroPageY zp), 0x96, 4, false, false⟩
  | .saxZpY zp => ⟨.sax, .mem (.zeroPageY zp), 0x97, 4, false, false⟩
  | .tya => ⟨.tya, .implied, 0x98, 2, false, false⟩
  | .staAbsY addr => ⟨.sta, .mem (.absoluteY addr), 0x99, 5, false, false⟩
  | .txs => ⟨.txs, .implied, 0x9A, 2, false, false⟩
  | .staAbsX addr => ⟨.sta, .mem (.absoluteX addr), 0x9D, 5, false, false⟩
  | .ldyImm imm => ⟨.ldy, .immediate imm, 0xA0, 2, false, false⟩
  | .ldaIndX zp => ⟨.lda, .mem (.indirectX zp), 0xA1, 6, false, false⟩
  | .ldxImm imm => ⟨.ldx, .immediate imm, 0xA2, 2, false, false⟩
  | .laxIndX zp => ⟨.lax, .mem (.indirectX zp), 0xA3, 6, false, false⟩
  | .ldyZp zp => ⟨.ldy, .mem (.zeroPage zp), 0xA4, 3, false, false⟩
  | .ldaZp zp => ⟨.lda, .mem (.zeroPage zp), 0xA5, 3, false, false⟩
  | .ldxZp zp => ⟨.ldx, .mem (.zeroPage zp), 0xA6, 3, false, false⟩
  | .laxZp zp => ⟨.lax, .mem (.zeroPage zp), 0xA7, 3, false, false⟩
  | .tay => ⟨.tay, .implied, 0xA8, 2, false, false⟩
  | .ldaImm imm => ⟨.lda, .immediate imm, 0xA9, 2, false, false⟩
  | .tax => ⟨.tax, .implied, 0xAA, 2, false, false⟩
  | .ldyAbs addr => ⟨.ldy, .mem (.absolute addr), 0xAC, 4, false, false⟩
  | .ldaAbs addr => ⟨.lda, .mem (.absolute addr), 0xAD, 4, false, false⟩
  | .ldxAbs addr => ⟨.ldx, .mem (.absolute addr), 0xAE, 4, false, false⟩
  | .laxAbs addr => ⟨.lax, .mem (.absolute addr), 0xAF, 4, false, false⟩
  | .bcs off => ⟨.bcs, .relative off, 0xB0, 2, false, false⟩
  | .ldaIndY zp => ⟨.lda, .mem (.indirectY zp), 0xB1, 5, true, false⟩
  | .laxIndY zp => ⟨.lax, .mem (.indirectY zp), 0xB3, 5, true, false⟩
  | .ldyZpX zp => ⟨.ldy, .mem (.zeroPageX zp), 0xB4, 4, false, false⟩
  | .ldaZpX zp => ⟨.lda, .mem (.zeroPageX zp), 0xB5, 4, false, false⟩
  | .ldxZpY zp => ⟨.ldx, .mem (.zeroPageY zp), 0xB6, 4, false, false⟩
  | .laxZpY zp => ⟨.lax, .mem (.zeroPageY zp), 0xB7, 4, false, false⟩
  | .clv => ⟨.clv, .implied, 0xB8, 2, false, false⟩
  | .ldaAbsY addr => ⟨.lda, .mem (.absoluteY addr), 0xB9, 4, true, false⟩
  | .tsx => ⟨.tsx, .implied, 0xBA, 2, false, false⟩
  | .ldyAbsX addr => ⟨.ldy, .mem (.absoluteX addr), 0xBC, 4, true, false⟩
  | .ldaAbsX addr => ⟨.lda, .mem (.absoluteX addr), 0xBD, 4, true, false⟩
  | .ldxAbsY addr => ⟨.ldx, .mem (.absoluteY addr), 0xBE, 4, true, false⟩
  | .laxAbsY addr => ⟨.lax, .mem (.absoluteY addr), 0xBF, 4, true, false⟩
  | .cpyImm imm => ⟨.cpy, .immediate imm, 0xC0, 2, false, false⟩
  | .cmpIndX zp => ⟨.cmp, .mem (.indirectX zp), 0xC1, 6, false, false⟩
  | .nopImmC2 imm => ⟨.nop, .immediate imm, 0xC2, 2, false, true⟩
  | .dcpIndX zp => ⟨.dcp, .mem (.indirectX zp), 0xC3, 8, false, false⟩
  | .cpyZp zp => ⟨.cpy, .mem (.zeroPage zp), 0xC4, 3, false, false⟩
  | .cmpZp zp => ⟨.cmp, .mem (.zeroPage zp), 0xC5, 3, false, false⟩
  | .decZp zp => ⟨.dec, .mem (.zeroPage zp), 0xC6, 5, false, false⟩
  | .dcpZp zp => ⟨.dcp, .mem (.zeroPage zp), 0xC7, 5, false, false⟩
  | .iny => ⟨.iny, .implied, 0xC8, 2, false, false⟩
  | .cmpImm imm => ⟨.cmp, .immediate imm, 0xC9, 2, false, false⟩
  | .dex => ⟨.dex, .implied, 0xCA, 2, false, false⟩
  | .cpyAbs addr => ⟨.cpy, .mem (.absolute addr), 0xCC, 4, false, false⟩
  | .cmpAbs addr => ⟨.cmp, .mem (.absolute addr), 0xCD, 4, false, false⟩
  | .decAbs addr => ⟨.dec, .mem (.absolute addr), 0xCE, 6, false, false⟩
  | .dcpAbs addr => ⟨.dcp, .mem (.absolute addr), 0xCF, 6, false, false⟩
  | .bne off => ⟨.bne, .relative off, 0xD0, 2, false, false⟩
  | .cmpIndY zp => ⟨.cmp, .mem (.indirectY zp), 0xD1, 5, true, false⟩
  | .dcpIndY zp => ⟨.dcp, .mem (.indirectY zp), 0xD3, 8, false, false⟩
  | .nopZpXD4 zp => ⟨.nop, .mem (.zeroPageX zp), 0xD4, 4, false, true⟩
  | .cmpZpX zp => ⟨.cmp, .mem (.zeroPageX zp), 0xD5, 4, false, false⟩
  | .decZpX zp => ⟨.dec, .mem (.zeroPageX zp), 0xD6, 6, false, false⟩
  | .dcpZpX zp => ⟨.dcp, .mem (.zeroPageX zp), 0xD7, 6, false, false⟩
  | .cld => ⟨.cld, .implied, 0xD8, 2, false, false⟩
  | .cmpAbsY addr => ⟨.cmp, .mem (.absoluteY addr), 0xD9, 4, true, false⟩
  | .nopImpDA => ⟨.nop, .implied, 0xDA, 2, false, true⟩
  | .dcpAbsY addr => ⟨.dcp, .mem (.absoluteY addr), 0xDB, 7, false, false⟩
  | .nopAbsXDC addr => ⟨.nop, .mem (.absoluteX addr), 0xDC, 4, true, true⟩
  | .cmpAbsX addr => ⟨.cmp, .mem (.absoluteX addr), 0xDD, 4, true, false⟩
  | .decAbsX addr => ⟨.dec, .mem (.absoluteX addr), 0xDE, 7, false, false⟩
  | .dcpAbsX addr => ⟨.dcp, .mem (.absoluteX addr), 0xDF, 7, false, false⟩
  | .cpxImm imm => ⟨.cpx, .immediate imm, 0xE0, 2, false, false⟩
  | .sbcIndX zp => ⟨.sbc, .mem (.indirectX zp), 0xE1, 6, false, false⟩
  | .nopImmE2 imm => ⟨.nop, .immediate imm, 0xE2, 2, false, true⟩
  | .iscIndX zp => ⟨.isc, .mem (.indirectX zp), 0xE3, 8, false, false⟩
  | .cpxZp zp => ⟨.cpx, .mem (.zeroPage zp), 0xE4, 3, false, false⟩
  | .sbcZp zp => ⟨.sbc, .mem (.zeroPage zp), 0xE5, 3, false, false⟩
  | .incZp zp => ⟨.inc, .mem (.zeroPage zp), 0xE6, 5, false, false⟩
  | .iscZp zp => ⟨.isc, .mem (.zeroPage zp), 0xE7, 5, false, false⟩
  | .inx => ⟨.inx, .implied, 0xE8, 2, false, false⟩
  | .sbcImm imm => ⟨.sbc, .immediate imm, 0xE9, 2, false, false⟩
  | .nop => ⟨.nop, .implied, 0xEA, 2, false, false⟩
  | .sbcImmEB imm => ⟨.sbc, .immediate imm, 0xEB, 2, false, true⟩
  | .cpxAbs addr => ⟨.cpx, .mem (.absolute addr), 0xEC, 4, false, false⟩
  | .sbcAbs addr => ⟨.sbc, .mem (.absolute addr), 0xED, 4, false, false⟩
  | .incAbs addr => ⟨.inc, .mem (.absolute addr), 0xEE, 6, false, false⟩
  | .iscAbs addr => ⟨.isc, .mem (.absolute addr), 0xEF, 6, false, false⟩
  | .beq off => ⟨.beq, .relative off, 0xF0, 2, false, false⟩
  | .sbcIndY zp => ⟨.sbc, .mem (.indirectY zp), 0xF1, 5, true, false⟩
  | .iscIndY zp => ⟨.isc, .mem (.indirectY zp), 0xF3, 8, false, false⟩
  | .nopZpXF4 zp => ⟨.nop, .mem (.zeroPageX zp), 0xF4, 4, false, true⟩
  | .sbcZpX zp => ⟨.sbc, .mem (.zeroPageX zp), 0xF5, 4, false, false⟩
  | .incZpX zp => ⟨.inc, .mem (.zeroPageX zp), 0xF6, 6, false, false⟩
  | .iscZpX zp => ⟨.isc, .mem (.zeroPageX zp), 0xF7, 6, false, false⟩
  | .sed => ⟨.sed, .implied, 0xF8, 2, false, false⟩
  | .sbcAbsY addr => ⟨.sbc, .mem (.absoluteY addr), 0xF9, 4, true, false⟩
  | .nopImpFA => ⟨.nop, .implied, 0xFA, 2, false, true⟩
  | .iscAbsY addr => ⟨.isc, .mem (.absoluteY addr), 0xFB, 7, false, false⟩
  | .nopAbsXFC addr => ⟨.nop, .mem (.absoluteX addr), 0xFC, 4, true, true⟩
  | .sbcAbsX addr => ⟨.sbc, .mem (.absoluteX addr), 0xFD, 4, true, false⟩
  | .incAbsX addr => ⟨.inc, .mem (.absoluteX addr), 0xFE, 7, false, false⟩
  | .iscAbsX addr => ⟨.isc, .mem (.absoluteX addr), 0xFF, 7, false, false⟩

/-- The instruction's mnemonic. -/
def Instr.mnemonic (i : Instr) : Mnemonic := i.entry.mnemonic

/-- The instruction's operand. -/
def Instr.operand (i : Instr) : Operand := i.entry.operand

/-- The instruction's opcode byte. -/
def Instr.opcode (i : Instr) : Byte := i.entry.opcode

/-- The instruction's size in bytes, 1 to 3 (rules R150, R151). -/
def Instr.size (i : Instr) : Nat := i.entry.operand.mode.size

/-- Whether the row is present only when P_EXTRA_NOPS is true (rule R157). -/
def Instr.optional (i : Instr) : Bool := i.entry.optional

/-- The 8 undocumented families (00_scope.md rule R2). -/
def Mnemonic.undocumented : Mnemonic → Bool
  | .lax | .sax | .dcp | .isc | .slo | .rla | .sre | .rra => true
  | .lda | .ldx | .ldy | .sta | .stx | .sty | .tax | .tay | .tsx | .txa | .txs | .tya
  | .adc | .sbc | .and | .ora | .eor | .bit | .cmp | .cpx | .cpy
  | .inc | .dec | .inx | .iny | .dex | .dey
  | .asl | .lsr | .rol | .ror
  | .bcc | .bcs | .beq | .bmi | .bne | .bpl | .bvc | .bvs
  | .jmp | .jsr | .rts | .brk | .rti | .nop
  | .pha | .php | .pla | .plp | .clc | .sec | .cli | .sei | .cld | .sed | .clv => false

/-- The `illegal` flag: the undocumented families and the optional rows (rule R158).  Nothing executed reads it. -/
def Entry.illegal (e : Entry) : Bool := e.mnemonic.undocumented || e.optional

/-- How an opcode's operand bytes are taken (rule R151).  `unread` is the immediate form of the undocumented NOPs,
whose operand byte is skipped without a bus read (40_addressing.md rule R184, 46_undocumented.md rule R329). -/
inductive Form where
  | implied (i : Instr)
  | immediate (f : Byte → Instr)
  | unread (f : Byte → Instr)
  | byte (f : Byte → Instr)
  | word (f : Word → Instr)
  | relative (f : Int → Instr)

/-- One decodable opcode byte of the map. -/
structure Slot where
  opcode : Byte
  optional : Bool
  form : Form

/-- Row 0x of the opcode map. -/
def opcodeRow0 : List Slot :=
  [⟨0x00, false, .implied .brk⟩,
   ⟨0x01, false, .byte .oraIndX⟩,
   ⟨0x03, false, .byte .sloIndX⟩,
   ⟨0x04, true, .byte .nopZp04⟩,
   ⟨0x05, false, .byte .oraZp⟩,
   ⟨0x06, false, .byte .aslZp⟩,
   ⟨0x07, false, .byte .sloZp⟩,
   ⟨0x08, false, .implied .php⟩,
   ⟨0x09, false, .immediate .oraImm⟩,
   ⟨0x0A, false, .implied .aslAcc⟩,
   ⟨0x0C, true, .word .nopAbs0C⟩,
   ⟨0x0D, false, .word .oraAbs⟩,
   ⟨0x0E, false, .word .aslAbs⟩,
   ⟨0x0F, false, .word .sloAbs⟩]

/-- Row 1x of the opcode map. -/
def opcodeRow1 : List Slot :=
  [⟨0x10, false, .relative .bpl⟩,
   ⟨0x11, false, .byte .oraIndY⟩,
   ⟨0x13, false, .byte .sloIndY⟩,
   ⟨0x14, true, .byte .nopZpX14⟩,
   ⟨0x15, false, .byte .oraZpX⟩,
   ⟨0x16, false, .byte .aslZpX⟩,
   ⟨0x17, false, .byte .sloZpX⟩,
   ⟨0x18, false, .implied .clc⟩,
   ⟨0x19, false, .word .oraAbsY⟩,
   ⟨0x1A, true, .implied .nopImp1A⟩,
   ⟨0x1B, false, .word .sloAbsY⟩,
   ⟨0x1C, true, .word .nopAbsX1C⟩,
   ⟨0x1D, false, .word .oraAbsX⟩,
   ⟨0x1E, false, .word .aslAbsX⟩,
   ⟨0x1F, false, .word .sloAbsX⟩]

/-- Row 2x of the opcode map. -/
def opcodeRow2 : List Slot :=
  [⟨0x20, false, .word .jsr⟩,
   ⟨0x21, false, .byte .andIndX⟩,
   ⟨0x23, false, .byte .rlaIndX⟩,
   ⟨0x24, false, .byte .bitZp⟩,
   ⟨0x25, false, .byte .andZp⟩,
   ⟨0x26, false, .byte .rolZp⟩,
   ⟨0x27, false, .byte .rlaZp⟩,
   ⟨0x28, false, .implied .plp⟩,
   ⟨0x29, false, .immediate .andImm⟩,
   ⟨0x2A, false, .implied .rolAcc⟩,
   ⟨0x2C, false, .word .bitAbs⟩,
   ⟨0x2D, false, .word .andAbs⟩,
   ⟨0x2E, false, .word .rolAbs⟩,
   ⟨0x2F, false, .word .rlaAbs⟩]

/-- Row 3x of the opcode map. -/
def opcodeRow3 : List Slot :=
  [⟨0x30, false, .relative .bmi⟩,
   ⟨0x31, false, .byte .andIndY⟩,
   ⟨0x33, false, .byte .rlaIndY⟩,
   ⟨0x34, true, .byte .nopZpX34⟩,
   ⟨0x35, false, .byte .andZpX⟩,
   ⟨0x36, false, .byte .rolZpX⟩,
   ⟨0x37, false, .byte .rlaZpX⟩,
   ⟨0x38, false, .implied .sec⟩,
   ⟨0x39, false, .word .andAbsY⟩,
   ⟨0x3A, true, .implied .nopImp3A⟩,
   ⟨0x3B, false, .word .rlaAbsY⟩,
   ⟨0x3C, true, .word .nopAbsX3C⟩,
   ⟨0x3D, false, .word .andAbsX⟩,
   ⟨0x3E, false, .word .rolAbsX⟩,
   ⟨0x3F, false, .word .rlaAbsX⟩]

/-- Row 4x of the opcode map. -/
def opcodeRow4 : List Slot :=
  [⟨0x40, false, .implied .rti⟩,
   ⟨0x41, false, .byte .eorIndX⟩,
   ⟨0x43, false, .byte .sreIndX⟩,
   ⟨0x44, true, .byte .nopZp44⟩,
   ⟨0x45, false, .byte .eorZp⟩,
   ⟨0x46, false, .byte .lsrZp⟩,
   ⟨0x47, false, .byte .sreZp⟩,
   ⟨0x48, false, .implied .pha⟩,
   ⟨0x49, false, .immediate .eorImm⟩,
   ⟨0x4A, false, .implied .lsrAcc⟩,
   ⟨0x4C, false, .word .jmpAbs⟩,
   ⟨0x4D, false, .word .eorAbs⟩,
   ⟨0x4E, false, .word .lsrAbs⟩,
   ⟨0x4F, false, .word .sreAbs⟩]

/-- Row 5x of the opcode map. -/
def opcodeRow5 : List Slot :=
  [⟨0x50, false, .relative .bvc⟩,
   ⟨0x51, false, .byte .eorIndY⟩,
   ⟨0x53, false, .byte .sreIndY⟩,
   ⟨0x54, true, .byte .nopZpX54⟩,
   ⟨0x55, false, .byte .eorZpX⟩,
   ⟨0x56, false, .byte .lsrZpX⟩,
   ⟨0x57, false, .byte .sreZpX⟩,
   ⟨0x58, false, .implied .cli⟩,
   ⟨0x59, false, .word .eorAbsY⟩,
   ⟨0x5A, true, .implied .nopImp5A⟩,
   ⟨0x5B, false, .word .sreAbsY⟩,
   ⟨0x5C, true, .word .nopAbsX5C⟩,
   ⟨0x5D, false, .word .eorAbsX⟩,
   ⟨0x5E, false, .word .lsrAbsX⟩,
   ⟨0x5F, false, .word .sreAbsX⟩]

/-- Row 6x of the opcode map. -/
def opcodeRow6 : List Slot :=
  [⟨0x60, false, .implied .rts⟩,
   ⟨0x61, false, .byte .adcIndX⟩,
   ⟨0x63, false, .byte .rraIndX⟩,
   ⟨0x64, true, .byte .nopZp64⟩,
   ⟨0x65, false, .byte .adcZp⟩,
   ⟨0x66, false, .byte .rorZp⟩,
   ⟨0x67, false, .byte .rraZp⟩,
   ⟨0x68, false, .implied .pla⟩,
   ⟨0x69, false, .immediate .adcImm⟩,
   ⟨0x6A, false, .implied .rorAcc⟩,
   ⟨0x6C, false, .word .jmpInd⟩,
   ⟨0x6D, false, .word .adcAbs⟩,
   ⟨0x6E, false, .word .rorAbs⟩,
   ⟨0x6F, false, .word .rraAbs⟩]

/-- Row 7x of the opcode map. -/
def opcodeRow7 : List Slot :=
  [⟨0x70, false, .relative .bvs⟩,
   ⟨0x71, false, .byte .adcIndY⟩,
   ⟨0x73, false, .byte .rraIndY⟩,
   ⟨0x74, true, .byte .nopZpX74⟩,
   ⟨0x75, false, .byte .adcZpX⟩,
   ⟨0x76, false, .byte .rorZpX⟩,
   ⟨0x77, false, .byte .rraZpX⟩,
   ⟨0x78, false, .implied .sei⟩,
   ⟨0x79, false, .word .adcAbsY⟩,
   ⟨0x7A, true, .implied .nopImp7A⟩,
   ⟨0x7B, false, .word .rraAbsY⟩,
   ⟨0x7C, true, .word .nopAbsX7C⟩,
   ⟨0x7D, false, .word .adcAbsX⟩,
   ⟨0x7E, false, .word .rorAbsX⟩,
   ⟨0x7F, false, .word .rraAbsX⟩]

/-- Row 8x of the opcode map. -/
def opcodeRow8 : List Slot :=
  [⟨0x80, true, .unread .nopImm80⟩,
   ⟨0x81, false, .byte .staIndX⟩,
   ⟨0x82, true, .unread .nopImm82⟩,
   ⟨0x83, false, .byte .saxIndX⟩,
   ⟨0x84, false, .byte .styZp⟩,
   ⟨0x85, false, .byte .staZp⟩,
   ⟨0x86, false, .byte .stxZp⟩,
   ⟨0x87, false, .byte .saxZp⟩,
   ⟨0x88, false, .implied .dey⟩,
   ⟨0x89, true, .unread .nopImm89⟩,
   ⟨0x8A, false, .implied .txa⟩,
   ⟨0x8C, false, .word .styAbs⟩,
   ⟨0x8D, false, .word .staAbs⟩,
   ⟨0x8E, false, .word .stxAbs⟩,
   ⟨0x8F, false, .word .saxAbs⟩]

/-- Row 9x of the opcode map. -/
def opcodeRow9 : List Slot :=
  [⟨0x90, false, .relative .bcc⟩,
   ⟨0x91, false, .byte .staIndY⟩,
   ⟨0x94, false, .byte .styZpX⟩,
   ⟨0x95, false, .byte .staZpX⟩,
   ⟨0x96, false, .byte .stxZpY⟩,
   ⟨0x97, false, .byte .saxZpY⟩,
   ⟨0x98, false, .implied .tya⟩,
   ⟨0x99, false, .word .staAbsY⟩,
   ⟨0x9A, false, .implied .txs⟩,
   ⟨0x9D, false, .word .staAbsX⟩]

/-- Row Ax of the opcode map. -/
def opcodeRowA : List Slot :=
  [⟨0xA0, false, .immediate .ldyImm⟩,
   ⟨0xA1, false, .byte .ldaIndX⟩,
   ⟨0xA2, false, .immediate .ldxImm⟩,
   ⟨0xA3, false, .byte .laxIndX⟩,
   ⟨0xA4, false, .byte .ldyZp⟩,
   ⟨0xA5, false, .byte .ldaZp⟩,
   ⟨0xA6, false, .byte .ldxZp⟩,
   ⟨0xA7, false, .byte .laxZp⟩,
   ⟨0xA8, false, .implied .tay⟩,
   ⟨0xA9, false, .immediate .ldaImm⟩,
   ⟨0xAA, false, .implied .tax⟩,
   ⟨0xAC, false, .word .ldyAbs⟩,
   ⟨0xAD, false, .word .ldaAbs⟩,
   ⟨0xAE, false, .word .ldxAbs⟩,
   ⟨0xAF, false, .word .laxAbs⟩]

/-- Row Bx of the opcode map. -/
def opcodeRowB : List Slot :=
  [⟨0xB0, false, .relative .bcs⟩,
   ⟨0xB1, false, .byte .ldaIndY⟩,
   ⟨0xB3, false, .byte .laxIndY⟩,
   ⟨0xB4, false, .byte .ldyZpX⟩,
   ⟨0xB5, false, .byte .ldaZpX⟩,
   ⟨0xB6, false, .byte .ldxZpY⟩,
   ⟨0xB7, false, .byte .laxZpY⟩,
   ⟨0xB8, false, .implied .clv⟩,
   ⟨0xB9, false, .word .ldaAbsY⟩,
   ⟨0xBA, false, .implied .tsx⟩,
   ⟨0xBC, false, .word .ldyAbsX⟩,
   ⟨0xBD, false, .word .ldaAbsX⟩,
   ⟨0xBE, false, .word .ldxAbsY⟩,
   ⟨0xBF, false, .word .laxAbsY⟩]

/-- Row Cx of the opcode map. -/
def opcodeRowC : List Slot :=
  [⟨0xC0, false, .immediate .cpyImm⟩,
   ⟨0xC1, false, .byte .cmpIndX⟩,
   ⟨0xC2, true, .unread .nopImmC2⟩,
   ⟨0xC3, false, .byte .dcpIndX⟩,
   ⟨0xC4, false, .byte .cpyZp⟩,
   ⟨0xC5, false, .byte .cmpZp⟩,
   ⟨0xC6, false, .byte .decZp⟩,
   ⟨0xC7, false, .byte .dcpZp⟩,
   ⟨0xC8, false, .implied .iny⟩,
   ⟨0xC9, false, .immediate .cmpImm⟩,
   ⟨0xCA, false, .implied .dex⟩,
   ⟨0xCC, false, .word .cpyAbs⟩,
   ⟨0xCD, false, .word .cmpAbs⟩,
   ⟨0xCE, false, .word .decAbs⟩,
   ⟨0xCF, false, .word .dcpAbs⟩]

/-- Row Dx of the opcode map. -/
def opcodeRowD : List Slot :=
  [⟨0xD0, false, .relative .bne⟩,
   ⟨0xD1, false, .byte .cmpIndY⟩,
   ⟨0xD3, false, .byte .dcpIndY⟩,
   ⟨0xD4, true, .byte .nopZpXD4⟩,
   ⟨0xD5, false, .byte .cmpZpX⟩,
   ⟨0xD6, false, .byte .decZpX⟩,
   ⟨0xD7, false, .byte .dcpZpX⟩,
   ⟨0xD8, false, .implied .cld⟩,
   ⟨0xD9, false, .word .cmpAbsY⟩,
   ⟨0xDA, true, .implied .nopImpDA⟩,
   ⟨0xDB, false, .word .dcpAbsY⟩,
   ⟨0xDC, true, .word .nopAbsXDC⟩,
   ⟨0xDD, false, .word .cmpAbsX⟩,
   ⟨0xDE, false, .word .decAbsX⟩,
   ⟨0xDF, false, .word .dcpAbsX⟩]

/-- Row Ex of the opcode map. -/
def opcodeRowE : List Slot :=
  [⟨0xE0, false, .immediate .cpxImm⟩,
   ⟨0xE1, false, .byte .sbcIndX⟩,
   ⟨0xE2, true, .unread .nopImmE2⟩,
   ⟨0xE3, false, .byte .iscIndX⟩,
   ⟨0xE4, false, .byte .cpxZp⟩,
   ⟨0xE5, false, .byte .sbcZp⟩,
   ⟨0xE6, false, .byte .incZp⟩,
   ⟨0xE7, false, .byte .iscZp⟩,
   ⟨0xE8, false, .implied .inx⟩,
   ⟨0xE9, false, .immediate .sbcImm⟩,
   ⟨0xEA, false, .implied .nop⟩,
   ⟨0xEB, true, .immediate .sbcImmEB⟩,
   ⟨0xEC, false, .word .cpxAbs⟩,
   ⟨0xED, false, .word .sbcAbs⟩,
   ⟨0xEE, false, .word .incAbs⟩,
   ⟨0xEF, false, .word .iscAbs⟩]

/-- Row Fx of the opcode map. -/
def opcodeRowF : List Slot :=
  [⟨0xF0, false, .relative .beq⟩,
   ⟨0xF1, false, .byte .sbcIndY⟩,
   ⟨0xF3, false, .byte .iscIndY⟩,
   ⟨0xF4, true, .byte .nopZpXF4⟩,
   ⟨0xF5, false, .byte .sbcZpX⟩,
   ⟨0xF6, false, .byte .incZpX⟩,
   ⟨0xF7, false, .byte .iscZpX⟩,
   ⟨0xF8, false, .implied .sed⟩,
   ⟨0xF9, false, .word .sbcAbsY⟩,
   ⟨0xFA, true, .implied .nopImpFA⟩,
   ⟨0xFB, false, .word .iscAbsY⟩,
   ⟨0xFC, true, .word .nopAbsXFC⟩,
   ⟨0xFD, false, .word .sbcAbsX⟩,
   ⟨0xFE, false, .word .incAbsX⟩,
   ⟨0xFF, false, .word .iscAbsX⟩]

/-- The opcode map of rule R154: 231 slots in ascending order of their byte. -/
def opcodeMap : List Slot :=
  opcodeRow0 ++ opcodeRow1 ++ opcodeRow2 ++ opcodeRow3 ++ opcodeRow4 ++ opcodeRow5 ++ opcodeRow6 ++ opcodeRow7 ++
  opcodeRow8 ++ opcodeRow9 ++ opcodeRowA ++ opcodeRowB ++ opcodeRowC ++ opcodeRowD ++ opcodeRowE ++ opcodeRowF

/-- Why bytes are no instruction. -/
inductive DecodeError where
  /-- The byte has no row in any configuration (rule R156). -/
  | undefinedOpcode (b : Byte)
  /-- The byte's row is present only when P_EXTRA_NOPS is true, and it is false (rule R157). -/
  | absentOpcode (b : Byte)
  /-- The bytes end before the instruction does. -/
  | truncated
  deriving DecidableEq, Repr

/-- The slot of an opcode byte in the configuration `extraNops` (rules R155 to R157). -/
def lookup (extraNops : Bool) (b : Byte) : Except DecodeError Form :=
  match opcodeMap.find? (fun slot => slot.opcode == b) with
  | none => .error (.undefinedOpcode b)
  | some slot => if slot.optional && !extraNops then .error (.absentOpcode b) else .ok slot.form

/-- The instruction a form makes of the operand bytes that follow the opcode, with the bytes left over (rule R152). -/
def Form.take (form : Form) (bytes : List Byte) : Except DecodeError (Instr × List Byte) :=
  match form, bytes with
  | .implied i, rest => .ok (i, rest)
  | .immediate f, b :: rest => .ok (f b, rest)
  | .unread f, b :: rest => .ok (f b, rest)
  | .byte f, b :: rest => .ok (f b, rest)
  | .relative f, b :: rest => .ok (f b.toInt, rest)
  | .word f, lo :: hi :: rest => .ok (f (wordOf lo hi), rest)
  | .immediate _, [] => .error .truncated
  | .unread _, [] => .error .truncated
  | .byte _, [] => .error .truncated
  | .relative _, [] => .error .truncated
  | .word _, [] => .error .truncated
  | .word _, [_] => .error .truncated

/-- The decoder, total on any bytes (rules R150, R155): the instruction at their front and the bytes after it, or
the reason why there is none. -/
def decode (extraNops : Bool) (bytes : List Byte) : Except DecodeError (Instr × List Byte) :=
  match bytes with
  | [] => .error .truncated
  | b :: rest =>
    match lookup extraNops b with
    | .error e => .error e
    | .ok form => form.take rest

/-- The encoder: the opcode byte and the operand bytes (rules R150 to R152). -/
def encode (i : Instr) : List Byte := i.opcode :: i.operand.bytes

/-- The descriptor found by opcode byte, `decode(opcode)` of rule R155, with operand bytes of zeros. -/
def descriptorOf (extraNops : Bool) (b : Byte) : Option Entry :=
  match decode extraNops [b, 0, 0] with
  | .ok (i, _) => some i.entry
  | .error _ => none

/-- Whether a slot is the row of a mnemonic and a mode. -/
def Slot.isFor (slot : Slot) (m : Mnemonic) (mode : Mode) : Bool :=
  match slot.form.take [0, 0] with
  | .ok (i, _) => decide (i.mnemonic = m) && decide (i.operand.mode = mode)
  | .error _ => false

/-- The table indexed by mnemonic and addressing mode (rule R159): the official opcode where one exists, and the
lowest byte otherwise. -/
def reverseLookup (extraNops : Bool) (m : Mnemonic) (mode : Mode) : Option Byte :=
  match opcodeMap.find? (fun slot => !slot.optional && slot.isFor m mode) with
  | some slot => some slot.opcode
  | none =>
    if extraNops then (opcodeMap.find? (fun slot => slot.isFor m mode)).map (fun slot => slot.opcode) else none

/-- The three bytes of an instruction of `nbits` bits numbered as spec/opcode_table.json numbers them: the first
byte is bits 7..0, and every bit above `nbits` is 0. -/
def tableBytes (nbits w : Nat) : List Byte :=
  let v := w % 2 ^ nbits
  [BitVec.ofNat 8 v, BitVec.ofNat 8 (v / 256), BitVec.ofNat 8 (v / 65536)]

/-- The instruction this decoder reads from a row's bits, with every row of the table present (P_EXTRA_NOPS true). -/
def decodeTableWord (nbits w : Nat) : Option Instr :=
  match decode true (tableBytes nbits w) with
  | .ok (i, _) => some i
  | .error _ => none

end Sys2Proof
end

