-- ==== Sys2Proof/Machine/Flags.lean ====
section
/-! DEFINITION. The flag register `P` and every flag and arithmetic computation the spec gives (10_state.md rules R34
to R37, 42_arith_logic.md rules R240 and R247, 43_shift_rotate.md). -/

namespace Sys2Proof.Machine

/-- Carry, bit 0 (rule R34). -/
def maskC : Byte := 0x01
/-- Zero, bit 1. -/
def maskZ : Byte := 0x02
/-- Interrupt-disable, bit 2. -/
def maskI : Byte := 0x04
/-- Decimal, bit 3. -/
def maskD : Byte := 0x08
/-- Break, bit 4. -/
def maskB : Byte := 0x10
/-- Unused, bit 5. -/
def maskU : Byte := 0x20
/-- Overflow, bit 6. -/
def maskV : Byte := 0x40
/-- Sign, bit 7. -/
def maskN : Byte := 0x80

/-- Whether a flag of `p` is set. -/
def flag (mask p : Byte) : Bool := p &&& mask != 0

/-- `p` with one flag set or cleared. -/
def setFlag (mask : Byte) (on : Bool) (p : Byte) : Byte := if on then p ||| mask else p &&& ~~~mask

/-- `P` with Z and N of a result: `SetNZ` of 00_scope.md rule R18. -/
def setNZ (r p : Byte) : Byte := setFlag maskN r.msb (setFlag maskZ (r == 0) p)

/-- The machine with one flag of `P` set or cleared. -/
def State.setFlag (mask : Byte) (on : Bool) (s : State) : State := { s with p := Machine.setFlag mask on s.p }

/-- The machine with Z and N of a result. -/
def State.setNZ (r : Byte) (s : State) : State := { s with p := Machine.setNZ r s.p }

/-- `P.C` as the number 0 or 1. -/
def carryIn (p : Byte) : Nat := if flag maskC p then 1 else 0

/-- The 9-bit sum `A + m + C` (rule R240). -/
def adderSum (a m p : Byte) : Nat := a.toNat + m.toNat + carryIn p

/-- The overflow test of rule R240: `~(A ^ m) & (A ^ r) & 0x80` is not 0. -/
def adderOverflow (a m r : Byte) : Bool := ~~~(a ^^^ m) &&& (a ^^^ r) &&& 0x80 != 0

/-- `AddCore(m)` (rule R240): A, then C, V, N and Z.  The D flag is not read (rule R36). -/
def State.addCore (m : Byte) (s : State) : State :=
  let sum := adderSum s.a m s.p
  let r : Byte := BitVec.ofNat 8 sum
  let p := Machine.setFlag maskC (decide (sum > 0xFF)) s.p
  let p := Machine.setFlag maskV (adderOverflow s.a m r) p
  { s with a := r, p := Machine.setNZ r p }

/-- `Compare(r, m)` (rule R247): C, Z and N of `r - m`; no register is written. -/
def State.compare (r m : Byte) (s : State) : State :=
  { s with p := Machine.setFlag maskN (r - m).msb (Machine.setFlag maskZ (r == m)
      (Machine.setFlag maskC (decide (r.toNat ≥ m.toNat)) s.p)) }

/-- What a shift or rotate makes of a byte and the carry: the result and the carry out (rules R271 to R274). -/
structure Shifted where
  value : Byte
  carry : Bool
  deriving DecidableEq, Repr

/-- Arithmetic shift left (rule R271). -/
def shiftAsl (m : Byte) (_p : Byte) : Shifted := ⟨m <<< 1, m.getLsbD 7⟩

/-- Logical shift right (rule R272). -/
def shiftLsr (m : Byte) (_p : Byte) : Shifted := ⟨m >>> 1, m.getLsbD 0⟩

/-- Rotate left through carry (rule R273). -/
def shiftRol (m : Byte) (p : Byte) : Shifted := ⟨m <<< 1 ||| BitVec.ofNat 8 (carryIn p), m.getLsbD 7⟩

/-- Rotate right through carry (rule R274). -/
def shiftRor (m : Byte) (p : Byte) : Shifted := ⟨m >>> 1 ||| BitVec.ofNat 8 (carryIn p) <<< 7, m.getLsbD 0⟩

/-- `P` as PLP and RTI load it: bit 5 set, bit 4 clear (45_stack_flags.md rule R303, 44_control.md rule R293). -/
def pulledP (b : Byte) : Byte := (b &&& 0xCF) ||| 0x20

/-- `P` as PHP and BRK push it: bits 4 and 5 set (rules R292, R301). -/
def pushedByInstruction (p : Byte) : Byte := p ||| 0x30

/-- `P` as an interrupt pushes it: bit 4 clear, bit 5 set (60_exceptions.md rule R352). -/
def pushedByInterrupt (p : Byte) : Byte := (p &&& 0xEF) ||| 0x20

end Sys2Proof.Machine
end

