-- ==== Sys2Proof/Machine/Ppu.lean ====
section
/-! DEFINITION. The PPU: its bus (20_memory.md rules R120 to R123), its register ports on the CPU bus (rules R100 to
R111) and its timing machine (60_exceptions.md rules R360 to R364).

`pc0` is the PC at the start of the current instruction or service, which a fault record holds (D38). -/

namespace Sys2Proof.Machine

/-- Go on with the value and state of a result; a fault ends it. -/
def Result.bind {α β : Type} (r : Result α) (k : α → State → Result β) : Result β :=
  match r with
  | .ok a s => k a s
  | .fault e s => .fault e s

/-- `NtIndex(a)` (rule R122): the 1 KB physical table of `a`, then its low 10 bits. -/
def ntIndex (m : Mirroring) (a : BitVec 14) : Nat :=
  let table := a.toNat % 0x1000 / 0x400
  let phys := match m with
    | .vertical => table % 2
    | .horizontal => table / 2
  phys * 0x400 + a.toNat % 0x400

/-- `PalIndex(a)` (rule R123): 32 bytes, with $10, $14, $18, $1C aliasing $00, $04, $08, $0C. -/
def palIndex (a : BitVec 14) : Nat :=
  let i := a &&& 0x1F
  if i &&& 0x13 = 0x10 then (i &&& 0x0F).toNat else i.toNat

/-- The PPU bus address of a VRAM address register: its low 14 bits (D35). -/
def busAddress (v : BitVec 15) : BitVec 14 := v.setWidth 14

/-- A bus fault at a PPU address (rule R342). -/
def ppuFault (kind : Access) (a : BitVec 14) (pc0 : Word) : FaultRecord := .bus kind (a.setWidth 16) pc0

/-- The byte `PpuRead(a)` finds by route (rules R120, R121): pattern tables, nametables, palette.  With no cartridge
only the palette has a route (log entry 8). -/
def ppuPeek (a : BitVec 14) (s : State) : Option Byte :=
  if a.toNat < 0x2000 then s.cart.map fun c => c.chr.read a.toNat
  else if a.toNat < 0x3F00 then s.cart.map fun c => s.ppu.vram.read (ntIndex c.mirroring a)
  else some (s.ppu.pal.read (palIndex a))

/-- `PpuRead(a)` (rule R120). -/
def ppuRead (pc0 : Word) (a : BitVec 14) (s : State) : Result Byte :=
  match ppuPeek a s with
  | some b => .ok b s
  | none => .fault (ppuFault .read a pc0) s

/-- A write to the pattern tables: stored in CHR-RAM; on CHR-ROM as `P_CHR_ROM_WRITE` says (rule R121). -/
def chrWrite (pc0 : Word) (c : Cartridge) (a : BitVec 14) (d : Byte) (s : State) : Result Unit :=
  if c.chrIsRam then .ok () { s with cart := some { c with chr := c.chr.write a.toNat d } }
  else match s.params.chrRomWrite with
    | .fault => .fault (ppuFault .write a pc0) s
    | .ignore => .ok () s

/-- `PpuWrite(a, d)` (rules R120, R121). -/
def ppuWrite (pc0 : Word) (a : BitVec 14) (d : Byte) (s : State) : Result Unit :=
  if a.toNat < 0x2000 then
    match s.cart with
    | some c => chrWrite pc0 c a d s
    | none => .fault (ppuFault .write a pc0) s
  else if a.toNat < 0x3F00 then
    match s.cart with
    | some c => .ok () { s with ppu := { s.ppu with vram := s.ppu.vram.write (ntIndex c.mirroring a) d } }
    | none => .fault (ppuFault .write a pc0) s
  else .ok () { s with ppu := { s.ppu with pal := s.ppu.pal.write (palIndex a) d } }

/-- The eight register ports in their order (rule R100). -/
inductive PpuPort where
  | ctrl | mask | status | oamAddr | oamData | scroll | addr | data
  deriving DecidableEq, Repr

/-- The port a CPU address of $2000 to $3FFF selects: `a & 7` (rule R100). -/
def portOf (a : Word) : PpuPort :=
  match a.toNat % 8 with
  | 0 => .ctrl
  | 1 => .mask
  | 2 => .status
  | 3 => .oamAddr
  | 4 => .oamData
  | 5 => .scroll
  | 6 => .addr
  | _ => .data

/-- A read of a write-only port: `P_PPU_OPEN_BUS` (rule R101).  A draw is a free value and advances the model's own
counter; no state of the spec changes. -/
def readOpenBus (s : State) : Result Byte :=
  match s.params.openBus with
  | .fixed b => .ok b s
  | .draw => .ok (Config.openBusDraw s.draws) { s with draws := s.draws + 1 }

/-- Status read (rule R102): bits 7 to 5, then VBlank and w are cleared. -/
def readStatus (s : State) : Result Byte :=
  .ok (s.ppu.status &&& 0xE0) { s with ppu := { s.ppu with status := s.ppu.status &&& 0x7F, w := false } }

/-- The VRAM address after a PPUDATA access: 1 or 32 further, wrapping at 15 bits (rules R110, R111). -/
def nextVram (p : Ppu) : BitVec 15 := p.v + (if p.ctrl.getLsbD 2 then 32 else 1)

/-- Data read (rule R110): buffered below the palette, direct in it, with the buffer refilled from beneath. -/
def readData (pc0 : Word) (s : State) : Result Byte :=
  let a := busAddress s.ppu.v
  (ppuRead pc0 a s).bind fun b s =>
    if a.toNat < 0x3F00 then
      .ok s.ppu.rdbuf { s with ppu := { s.ppu with rdbuf := b, v := nextVram s.ppu } }
    else
      (ppuRead pc0 (a - 0x1000) s).bind fun under s =>
        .ok b { s with ppu := { s.ppu with rdbuf := under, v := nextVram s.ppu } }

/-- A CPU read of a port (rules R101, R102, R106, R110). -/
def readPort (pc0 : Word) (port : PpuPort) (s : State) : Result Byte :=
  match port with
  | .ctrl => readOpenBus s
  | .mask => readOpenBus s
  | .status => readStatus s
  | .oamAddr => readOpenBus s
  | .oamData => .ok (s.ppu.oam.read s.ppu.oamaddr.toNat) s
  | .scroll => readOpenBus s
  | .addr => readOpenBus s
  | .data => readData pc0 s

/-- Ctrl write (rule R103): the register and t[11:10]. -/
def Ppu.writeCtrl (d : Byte) (p : Ppu) : Ppu :=
  { p with ctrl := d, t := (p.t &&& 0x73FF) ||| (d &&& 0x03).setWidth 15 <<< 10 }

/-- OAMData write (rule R107). -/
def Ppu.writeOam (d : Byte) (p : Ppu) : Ppu :=
  { p with oam := p.oam.write p.oamaddr.toNat d, oamaddr := p.oamaddr + 1 }

/-- Scroll write (rule R108): coarse and fine X first, fine and coarse Y second. -/
def Ppu.writeScroll (d : Byte) (p : Ppu) : Ppu :=
  if p.w then
    { p with
      t := (p.t &&& 0x0C1F) ||| (d &&& 0x07).setWidth 15 <<< 12 ||| (d &&& 0xF8).setWidth 15 <<< 2
      w := false }
  else { p with t := (p.t &&& 0x7FE0) ||| (d >>> 3).setWidth 15, x := d.setWidth 3, w := true }

/-- Addr write (rule R109): the high 6 bits first, the low byte second, which copies t to v. -/
def Ppu.writeAddr (d : Byte) (p : Ppu) : Ppu :=
  if p.w then
    let t := (p.t &&& 0x7F00) ||| d.setWidth 15
    { p with t := t, v := t, w := false }
  else { p with t := (p.t &&& 0x00FF) ||| (d &&& 0x3F).setWidth 15 <<< 8, w := true }

/-- Data write (rule R111). -/
def writeData (pc0 : Word) (d : Byte) (s : State) : Result Unit :=
  (ppuWrite pc0 (busAddress s.ppu.v) d s).bind fun _ s =>
    .ok () { s with ppu := { s.ppu with v := nextVram s.ppu } }

/-- A CPU write of a port (rules R101, R103 to R105, R107 to R109, R111). -/
def writePort (pc0 : Word) (port : PpuPort) (d : Byte) (s : State) : Result Unit :=
  match port with
  | .ctrl => .ok () { s with ppu := s.ppu.writeCtrl d }
  | .mask => .ok () { s with ppu := { s.ppu with mask := d } }
  | .status => .ok () s
  | .oamAddr => .ok () { s with ppu := { s.ppu with oamaddr := d } }
  | .oamData => .ok () { s with ppu := s.ppu.writeOam d }
  | .scroll => .ok () { s with ppu := s.ppu.writeScroll d }
  | .addr => .ok () { s with ppu := s.ppu.writeAddr d }
  | .data => writeData pc0 d s

/-- The counters one dot on (rule R360): 341 dots a scanline, 262 scanlines a frame. -/
def Ppu.advance (p : Ppu) : Ppu :=
  if p.dot + 1 = 341 then
    { p with dot := 0, scanline := if p.scanline + 1 = 262 then 0 else p.scanline + 1 }
  else { p with dot := p.dot + 1 }

/-- VBlank start (rules R361, R362): status bit 7, and an NMI request when ctrl bit 7 is set. -/
def Ppu.vblankStart (p : Ppu) : Ppu :=
  { p with status := p.status ||| 0x80, nmiReq := p.nmiReq || p.ctrl.getLsbD 7 }

/-- Pre-render start (rule R363): status bits 7, 6 and 5 are cleared. -/
def Ppu.preRenderStart (p : Ppu) : Ppu := { p with status := p.status &&& 0x1F }

/-- The events of the position just entered (rules R360 to R363). -/
def Ppu.events (p : Ppu) : Ppu :=
  if p.scanline = 241 ∧ p.dot = 1 then p.vblankStart
  else if p.scanline = 261 ∧ p.dot = 0 then p.preRenderStart
  else p

/-- The sprite flags a tick may set under `P_SPRITE_FLAGS = draw` (rule R364): free values, outside scanlines 241 to
261. -/
def drawSpriteFlags (s : State) : State :=
  match s.params.spriteFlags with
  | .never => s
  | .draw =>
    if 241 ≤ s.ppu.scanline ∧ s.ppu.scanline ≤ 261 then s
    else
      let hit : Byte := if Config.spriteZeroDraw s.draws then 0x40 else 0
      let overflow : Byte := if Config.spriteOverflowDraw s.draws then 0x20 else 0
      { s with ppu := { s.ppu with status := s.ppu.status ||| hit ||| overflow }, draws := s.draws + 1 }

/-- One PPU dot (rule R360): advance, then act on the position entered (D39). -/
def ppuTick (s : State) : State := drawSpriteFlags { s with ppu := s.ppu.advance.events }

/-- `n` PPU dots. -/
def ppuTicks : Nat → State → State
  | 0, s => s
  | n + 1, s => ppuTicks n (ppuTick s)

end Sys2Proof.Machine
end

