-- ==== Sys2Proof/Machine/Ops.lean ====
section
/-! DEFINITION. The named operations over memory and registers: the CPU bus (20_memory.md rules R81 to R90), the stack
(10_state.md rule R33), taking an interrupt and returning from one (60_exceptions.md rules R350 to R356). -/

namespace Sys2Proof.Machine

/-- What an instruction's meaning answers. -/
abbrev Out := Host.Outcome State Fault Refusal

/-- The fault a record stands for, with the state it leaves, where `FAULT` is set (60_exceptions.md rule R340). -/
def FaultRecord.raise (r : FaultRecord) (s : State) : Fault :=
  match r with
  | .decode opcode pc => .decodeFault opcode pc { s with fault := some r }
  | .bus kind addr pc => .busFault kind addr pc { s with fault := some r }

/-- The outcome a result stands for. -/
def Result.toOutcome (r : Result Unit) : Out :=
  match r with
  | .ok _ s => .next s
  | .fault e s => .fault (e.raise s)

/-- The NMI vector's address (20_memory.md rule R89). -/
def nmiVector : Word := 0xFFFA
/-- The Reset vector's address (90_conflicts.md C1). -/
def resetVector : Word := 0xFFFC
/-- The IRQ and BRK vector's address. -/
def irqVector : Word := 0xFFFE

/-- Where in PRG a CPU address of $8000 to $FFFF lies: a 16 KB image is mirrored (rule R131). -/
def prgIndex (size : PrgSize) (a : Word) : Nat :=
  match size with
  | .kb16 => a.toNat % 0x4000
  | .kb32 => a.toNat % 0x8000

/-- The byte of internal RAM at a CPU address below $2000: `RAM[a & 0x07FF]` (rule R82). -/
def ramIndex (a : Word) : Nat := a.toNat % 0x800

/-- `MemRead(a, 1)`: one CPU-bus read through the routes of rule R82; no route is a bus fault (rule R83). -/
def memRead (pc0 : Word) (a : Word) (s : State) : Result Byte :=
  if a.toNat < 0x2000 then .ok (s.ram.read (ramIndex a)) s
  else if a.toNat < 0x4000 then readPort pc0 (portOf a) s
  else if a.toNat < 0x8000 then .fault (.bus .read a pc0) s
  else match s.cart with
    | some c => .ok (c.prg.read (prgIndex c.prgSize a)) s
    | none => .fault (.bus .read a pc0) s

/-- `MemWrite(a, 1, d)`: one CPU-bus write through the routes of rule R84; no route is a bus fault (rule R83). -/
def memWrite (pc0 : Word) (a : Word) (d : Byte) (s : State) : Result Unit :=
  if a.toNat < 0x2000 then .ok () { s with ram := s.ram.write (ramIndex a) d }
  else if a.toNat < 0x4000 then writePort pc0 (portOf a) d s
  else .fault (.bus .write a pc0) s

/-- `Read16(a)` (00_scope.md rule R16): low byte first, the high byte's address wrapping at 16 bits. -/
def read16 (pc0 : Word) (a : Word) (s : State) : Result Word :=
  (memRead pc0 a s).bind fun lo s =>
  (memRead pc0 (a + 1) s).bind fun hi s => .ok (wordOf lo hi) s

/-- The address of the stack slot `S` names: `0x0100 | S` (10_state.md rule R31). -/
def stackAddress (sp : Byte) : Word := 0x0100 ||| sp.setWidth 16

/-- `Push(v)` (rule R33): store, then decrement S. -/
def push (pc0 : Word) (d : Byte) (s : State) : Result Unit :=
  (memWrite pc0 (stackAddress s.sp) d s).bind fun _ s => .ok () { s with sp := s.sp - 1 }

/-- `Pull()` (rule R33): increment S, then read. -/
def pull (pc0 : Word) (s : State) : Result Byte :=
  memRead pc0 (stackAddress (s.sp + 1)) { s with sp := s.sp + 1 }

/-- A 16-bit value pushed high byte first (rule R33). -/
def push16 (pc0 : Word) (w : Word) (s : State) : Result Unit :=
  (push pc0 (highByte w) s).bind fun _ s => push pc0 (lowByte w) s

/-- A 16-bit value pulled low byte first (rule R33). -/
def pull16 (pc0 : Word) (s : State) : Result Word :=
  (pull pc0 s).bind fun lo s => (pull pc0 s).bind fun hi s => .ok (wordOf lo hi) s

/-- Taking an interrupt, shared by NMI, IRQ and BRK (rules R292, R352): push the return address and a copy of P, set I,
load PC from the vector. -/
def enterInterrupt (pc0 : Word) (ret : Word) (pushedP : Byte) (vector : Word) (s : State) : Result Unit :=
  (push16 pc0 ret s).bind fun _ s =>
  (push pc0 pushedP s).bind fun _ s =>
  (read16 pc0 vector (s.setFlag maskI true)).bind fun target s => .ok () { s with pc := target }

/-- Returning from an interrupt (rules R293, R356): pull P, then PC with no adjustment. -/
def returnFromInterrupt (pc0 : Word) (s : State) : Result Unit :=
  (pull pc0 s).bind fun b s =>
  (pull16 pc0 { s with p := pulledP b }).bind fun target s => .ok () { s with pc := target }

/-- `n` more CPU cycles on `CYC` (10_state.md rule R39). -/
def State.addCycles (n : Nat) (s : State) : State := { s with cyc := s.cyc + BitVec.ofNat 64 n }

/-- The end of an interrupt service: the latch is cleared and 7 cycles are charged (rules R352, R353). -/
def endService (s : State) : State := State.addCycles 7 { s with irql := none }

/-- NMI and IRQ service (rule R352): the pushed PC is that of the next instruction. -/
def serviceInterrupt (vector : Word) (s : State) : Result Unit :=
  (enterInterrupt s.pc s.pc (pushedByInterrupt s.p) vector s).bind fun _ s => .ok () (endService s)

/-- Reset service (rule R353): S falls by 3 with no writes, I is set, PC is loaded from the Reset vector. -/
def serviceReset (s : State) : Result Unit :=
  (read16 s.pc resetVector { s.setFlag maskI true with sp := s.sp - 3 }).bind fun target s =>
    .ok () (endService { s with pc := target })

/-- The priority of a latched request (rule R350). -/
def priority : Option Interrupt → Nat
  | none => 0
  | some .irq => 1
  | some .nmi => 2
  | some .reset => 3

/-- `raise(kind)` (rule R350): a request replaces the latch only if its priority is higher (D8). -/
def State.raise (kind : Interrupt) (s : State) : State :=
  if priority (some kind) > priority s.irql then { s with irql := some kind } else s

/-- The arbiter (rule R351): the interrupt this step services, if any; IRQ only while I is clear. -/
def arbitrate (s : State) : Option Interrupt :=
  match s.irql with
  | some .irq => if flag maskI s.p then none else some .irq
  | some .nmi => some .nmi
  | some .reset => some .reset
  | none => none

/-- The service of a request (rules R351 to R353). -/
def service (kind : Interrupt) (s : State) : Result Unit :=
  match kind with
  | .irq => serviceInterrupt irqVector s
  | .nmi => serviceInterrupt nmiVector s
  | .reset => serviceReset s

end Sys2Proof.Machine
end

