-- ==== Sys2Proof/Machine/Fetch.lean ====
section
/-! DEFINITION. Fetching an instruction through the CPU bus (40_addressing.md rules R180 to R192): the opcode byte, its
decoding, and its operand bytes in increasing address order. -/

namespace Sys2Proof.Machine

/-- PC moved on by `n`, modulo 2^16 (10_state.md rule R32). -/
def State.advancePc (n : Nat) (s : State) : State := { s with pc := s.pc + BitVec.ofNat 16 n }

/-- The byte at an address without the side effects of a bus read: RAM or PRG, and 0 where the address has neither.
Only the skipped operand byte of an undocumented immediate NOP is taken so, and its meaning ignores the value. -/
def skippedByte (a : Word) (s : State) : Byte :=
  if a.toNat < 0x2000 then s.ram.read (ramIndex a)
  else if a.toNat < 0x8000 then 0
  else match s.cart with
    | some c => c.prg.read (prgIndex c.prgSize a)
    | none => 0

/-- The operand bytes of a form, read at PC, which ends behind the instruction (rules R181 to R192).  The resolver
moves PC over an immediate byte before the handler reads it (rule R184), over the others after their reads. -/
def fetchOperand (pc0 : Word) (form : Form) (s : State) : Result Instr :=
  match form with
  | .implied i => .ok i s
  | .immediate f => (memRead pc0 s.pc (s.advancePc 1)).bind fun b s => .ok (f b) s
  | .unread f => .ok (f (skippedByte s.pc s)) (s.advancePc 1)
  | .byte f => (memRead pc0 s.pc s).bind fun b s => .ok (f b) (s.advancePc 1)
  | .relative f => (memRead pc0 s.pc s).bind fun b s => .ok (f b.toInt) (s.advancePc 1)
  | .word f => (read16 pc0 s.pc s).bind fun w s => .ok (f w) (s.advancePc 2)

/-- The fetch of rule R180: opcode byte, PC on by one, decode or DecodeFault (60_exceptions.md rule R341), operands. -/
def fetchInstr (s : State) : Result Instr :=
  (memRead s.pc s.pc s).bind fun opcode s1 =>
    match lookup s.params.extraNops opcode with
    | .error _ => .fault (.decode opcode s.pc) (s1.advancePc 1)
    | .ok form => fetchOperand s.pc form (s1.advancePc 1)

end Sys2Proof.Machine
end

