-- ==== Sys2Proof/Machine/Console.lean ====
section
/-! DEFINITION. The console around the CPU: what follows a CPU step (60_exceptions.md rule R372) and the host's
operations (rule R373, 70_reset_and_hazards.md rules R390 to R396). -/

namespace Sys2Proof.Machine

/-- The console takes the PPU's NMI request into the latch and clears it (rules R350, R372, D18). -/
def latchNmi (s : State) : State :=
  if s.ppu.nmiReq then State.raise .nmi { s with ppu := { s.ppu with nmiReq := false } } else s

/-- The CPU cycles between two states: `cpu_step`'s return value, which `CYC` has already counted. -/
def cyclesElapsed (before after : State) : Nat := (after.cyc - before.cyc).toNat

/-- The rest of the console step after the CPU's part (rule R372): three PPU dots a cycle, then the NMI request. -/
def afterCpu (before after : State) : State := latchNmi (ppuTicks (3 * cyclesElapsed before after) after)

/-- Why the host's operation is rejected. -/
inductive HostRefusal where
  /-- The image is no cartridge of this block (rule R343). -/
  | parse (reason : ParseFault)
  /-- `insert_cartridge` after a step has run since power-up (rule R373). -/
  | stepsHaveRun
  /-- The operation needs a cartridge (rule R373, D41). -/
  | noCartridge
  deriving DecidableEq, Repr

/-- What a host operation answers, with the state after it. -/
inductive HostOutcome where
  | done (s : State)
  | rejected (reason : HostRefusal) (s : State)
  deriving DecidableEq, Repr

/-- `insert_cartridge(bytes)` (rules R130, R134, R343): after a ParseFault the console keeps no cartridge.  No step
has run since power-up exactly while `CYC` is 0 and no fault is recorded. -/
def insertCartridge (bytes : List Byte) (s : State) : HostOutcome :=
  if s.cyc ≠ 0 ∨ s.fault ≠ none then .rejected .stepsHaveRun s
  else match parse bytes with
    | .ok c => .done { s with cart := some c }
    | .error e => .rejected (.parse e) { s with cart := none }

/-- `power_up()` (70_reset_and_hazards.md rule R390).  The model's draw counter runs on. -/
def powerUp (s : State) : HostOutcome :=
  match s.cart with
  | some c => .done { State.powerUp s.params (some c) with draws := s.draws }
  | none => .rejected .noCartridge s

/-- `reset()` (rule R392): Reset is latched and nothing else changes. -/
def warmReset (s : State) : HostOutcome :=
  match s.cart with
  | some _ => .done (s.raise .reset)
  | none => .rejected .noCartridge s

/-- `assert_irq()` (rule R373, D27). -/
def assertIrq (s : State) : HostOutcome := .done (s.raise .irq)

/-- `set_pc(a)`, for a test harness between steps (rule R373, D44). -/
def setPc (a : Word) (s : State) : HostOutcome := .done { s with pc := a }

/-- An NROM-128 cartridge of zeros, for placing an instruction in a machine that has none. -/
def blankCartridge : Cartridge where
  prg := []
  prgSize := .kb16
  chr := []
  chrLen := 8192
  chrIsRam := true
  mirroring := .horizontal

/-- One byte put where a bus read of a RAM or PRG address finds it. -/
def placeByte (a : Word) (b : Byte) (s : State) : State :=
  if a.toNat < 0x2000 then { s with ram := s.ram.write (ramIndex a) b }
  else match s.cart with
    | some c => { s with cart := some { c with prg := c.prg.write (prgIndex c.prgSize a) b } }
    | none => s

/-- Consecutive bytes from an address on. -/
def placeBytes : Word → List Byte → State → State
  | _, [], s => s
  | a, b :: rest, s => placeBytes (a + 1) rest (placeByte a b s)

/-- Whether an address is RAM or PRG. -/
def holdsCode (a : Word) : Bool := decide (a.toNat < 0x2000) || decide (0x8000 ≤ a.toNat)

/-- Where `placeInstr` puts an instruction: at PC if its three bytes lie in RAM or PRG, else at $8000. -/
def codeAddress (pc : Word) : Word :=
  if holdsCode pc && holdsCode (pc + 1) && holdsCode (pc + 2) then pc else 0x8000

/-- The machine made ready to run the instruction of three bytes as its very next step: no fault, no latched request, a
cartridge inserted, its opcode's row present, the bytes at PC. -/
def placeInstr (bytes : List Byte) (s : State) : State :=
  let ready : State :=
    { s with
      fault := none
      irql := none
      cart := some (s.cart.getD blankCartridge)
      params := { s.params with extraNops := true }
      pc := codeAddress s.pc }
  placeBytes ready.pc bytes ready

end Sys2Proof.Machine
end

