-- ==== Sys2Proof/Machine/Operands.lean ====
section
/-! DEFINITION. The addressing-mode resolver (40_addressing.md rules R181 to R193), the cycle charge (rule R194) and the
shapes of instruction every meaning is an instance of (rule R196).

A meaning runs after the fetch has read the operand bytes, with PC at the following instruction (10_state.md rule R32);
the resolver's pointer reads are part of the meaning. -/

namespace Sys2Proof.Machine

/-- The PC at the instruction's opcode fetch, which a fault record holds (D38): PC stands behind the instruction. -/
def startPc (i : Instr) (s : State) : Word := s.pc - BitVec.ofNat 16 i.size

/-- Whether two addresses lie in different 256-byte pages (rule R193). -/
def crosses (a b : Word) : Bool := a &&& 0xFF00 != b &&& 0xFF00

/-- An effective address with its page-cross bit (rule R181). -/
structure Resolved where
  ea : Word
  crossed : Bool
  deriving DecidableEq, Repr

/-- A base plus an index register: the 16-bit sum and its page-cross bit (rules R187, R191). -/
def indexed (base : Word) (index : Byte) : Resolved :=
  let ea := base + index.setWidth 16
  ⟨ea, crosses base ea⟩

/-- The address of an indirect jump's high target byte: the page of the pointer is kept (rule R189). -/
def pageWrapNext (ptr : Word) : Word := (ptr &&& 0xFF00) ||| ((ptr + 1) &&& 0x00FF)

/-- `Read16ZP(z)` (00_scope.md rule R16): a pointer in the zero page, its high byte wrapping within it. -/
def read16Zp (pc0 : Word) (z : Byte) (s : State) : Result Word :=
  (memRead pc0 (z.setWidth 16) s).bind fun lo s =>
  (memRead pc0 ((z + 1).setWidth 16) s).bind fun hi s => .ok (wordOf lo hi) s

/-- The resolver for memory operands (rules R185 to R191). -/
def resolve (pc0 : Word) (m : MemOperand) (s : State) : Result Resolved :=
  match m with
  | .zeroPage zp => .ok ⟨zp.setWidth 16, false⟩ s
  | .zeroPageX zp => .ok ⟨(zp + s.x).setWidth 16, false⟩ s
  | .zeroPageY zp => .ok ⟨(zp + s.y).setWidth 16, false⟩ s
  | .absolute addr => .ok ⟨addr, false⟩ s
  | .absoluteX addr => .ok (indexed addr s.x) s
  | .absoluteY addr => .ok (indexed addr s.y) s
  | .indirect ptr =>
    (memRead pc0 ptr s).bind fun lo s =>
    (memRead pc0 (pageWrapNext ptr) s).bind fun hi s => .ok ⟨wordOf lo hi, false⟩ s
  | .indirectX zp => (read16Zp pc0 (zp + s.x) s).bind fun ea s => .ok ⟨ea, false⟩ s
  | .indirectY zp => (read16Zp pc0 zp s).bind fun base s => .ok (indexed base s.y) s

/-- The cycles of a step that executes `i` (rule R194): base, page cross, and a taken branch's extra. -/
def stepCycles (i : Instr) (crossed : Bool) (extra : Nat) : Nat :=
  i.entry.baseCycles + (if i.entry.pageCrossAddsCycle && crossed then 1 else 0) + extra

/-- The cycles of a step charged to `CYC`. -/
def charge (i : Instr) (crossed : Bool) (extra : Nat) (s : State) : State := s.addCycles (stepCycles i crossed extra)

/-- An operand that is read: the immediate byte, or a memory operand. -/
inductive Source where
  | imm (b : Byte)
  | mem (m : MemOperand)
  deriving DecidableEq, Repr

/-- An operand that is read and written back: the accumulator, or a memory operand (rule R183). -/
inductive Location where
  | acc
  | mem (m : MemOperand)
  deriving DecidableEq, Repr

/-- The byte an operand gives, with the page-cross bit. -/
structure Operated where
  value : Byte
  crossed : Bool
  deriving DecidableEq, Repr

/-- The read of an operand (rules R184, R196): an immediate byte was read by the fetch. -/
def readSource (pc0 : Word) (src : Source) (s : State) : Result Operated :=
  match src with
  | .imm b => .ok ⟨b, false⟩ s
  | .mem m =>
    (resolve pc0 m s).bind fun r s =>
    (memRead pc0 r.ea s).bind fun b s => .ok ⟨b, r.crossed⟩ s

/-- An instruction on registers alone. -/
def runImplied (i : Instr) (effect : State → State) (s : State) : Out := .next (charge i false 0 (effect s))

/-- An instruction that uses the stack or a vector. -/
def runStack (i : Instr) (effect : Word → State → Result Unit) (s : State) : Out :=
  ((effect (startPc i s) s).bind fun _ s => .ok () (charge i false 0 s)).toOutcome

/-- An instruction that reads its operand: loads, arithmetic, logic, compare, BIT, LAX. -/
def runRead (i : Instr) (src : Source) (effect : Byte → State → State) (s : State) : Out :=
  ((readSource (startPc i s) src s).bind fun r s => .ok () (charge i r.crossed 0 (effect r.value s))).toOutcome

/-- An instruction that stores a register value and reads no operand. -/
def runStore (i : Instr) (m : MemOperand) (value : State → Byte) (s : State) : Out :=
  ((resolve (startPc i s) m s).bind fun r s1 =>
    (memWrite (startPc i s) r.ea (value s1) s1).bind fun _ s2 => .ok () (charge i r.crossed 0 s2)).toOutcome

/-- A read-modify-write operation: the value written back, what is written to registers before the write, and what
after it, given the value written. -/
structure RmwOp where
  value : Byte → State → Byte
  before : Byte → State → State
  after : Byte → State → State

/-- A read-modify-write instruction: one read and one write, no dummy access (D9, rule R270). -/
def runRmw (i : Instr) (loc : Location) (op : RmwOp) (s : State) : Out :=
  match loc with
  | .acc => .next (charge i false 0 (op.after (op.value s.a s) { op.before s.a s with a := op.value s.a s }))
  | .mem m =>
    ((resolve (startPc i s) m s).bind fun r s1 =>
      (memRead (startPc i s) r.ea s1).bind fun b s2 =>
      (memWrite (startPc i s) r.ea (op.value b s2) (op.before b s2)).bind fun _ s3 =>
        .ok () (charge i r.crossed 0 (op.after (op.value b s2) s3))).toOutcome

/-- A branch taken when a flag has a value (44_control.md rule R280). -/
def runBranch (i : Instr) (off : Int) (mask : Byte) (want : Bool) (s : State) : Out :=
  let target := s.pc + BitVec.ofInt 16 off
  if flag mask s.p = want then
    .next (charge i false (if crosses s.pc target then 2 else 1) { s with pc := target })
  else .next (charge i false 0 s)

/-- A jump to the address of its operand (rule R289). -/
def runJump (i : Instr) (m : MemOperand) (s : State) : Out :=
  ((resolve (startPc i s) m s).bind fun r s => .ok () (charge i r.crossed 0 { s with pc := r.ea })).toOutcome

/-- An instruction that resolves its operand and neither reads nor writes it (46_undocumented.md rule R329). -/
def runSkip (i : Instr) (m : MemOperand) (s : State) : Out :=
  ((resolve (startPc i s) m s).bind fun r s => .ok () (charge i r.crossed 0 s)).toOutcome

end Sys2Proof.Machine
end

