-- ==== Sys2Proof/Machine/Arith.lean ====
section
/-! DEFINITION. Arithmetic, logic, compare, increment and decrement (42_arith_logic.md rules R240 to R257). -/

namespace Sys2Proof.Machine

/-- ADC: `AddCore(m)` (rule R241). -/
def adcEffect (m : Byte) (s : State) : State := s.addCore m

/-- $61 ADC IndirectX, rule R241. -/
def execAdcIndX (zp : Byte) (s : State) : Out := runRead (.adcIndX zp) (.mem (.indirectX zp)) adcEffect s

/-- $65 ADC ZeroPage, rule R241. -/
def execAdcZp (zp : Byte) (s : State) : Out := runRead (.adcZp zp) (.mem (.zeroPage zp)) adcEffect s

/-- $69 ADC Immediate, rule R241. -/
def execAdcImm (imm : Byte) (s : State) : Out := runRead (.adcImm imm) (.imm imm) adcEffect s

/-- $6D ADC Absolute, rule R241. -/
def execAdcAbs (addr : Word) (s : State) : Out := runRead (.adcAbs addr) (.mem (.absolute addr)) adcEffect s

/-- $71 ADC IndirectY, rule R241. -/
def execAdcIndY (zp : Byte) (s : State) : Out := runRead (.adcIndY zp) (.mem (.indirectY zp)) adcEffect s

/-- $75 ADC ZeroPageX, rule R241. -/
def execAdcZpX (zp : Byte) (s : State) : Out := runRead (.adcZpX zp) (.mem (.zeroPageX zp)) adcEffect s

/-- $79 ADC AbsoluteY, rule R241. -/
def execAdcAbsY (addr : Word) (s : State) : Out := runRead (.adcAbsY addr) (.mem (.absoluteY addr)) adcEffect s

/-- $7D ADC AbsoluteX, rule R241. -/
def execAdcAbsX (addr : Word) (s : State) : Out := runRead (.adcAbsX addr) (.mem (.absoluteX addr)) adcEffect s

/-- SBC: `AddCore(m ^ 0xFF)` (rule R242). -/
def sbcEffect (m : Byte) (s : State) : State := s.addCore (m ^^^ 0xFF)

/-- $E1 SBC IndirectX, rule R242. -/
def execSbcIndX (zp : Byte) (s : State) : Out := runRead (.sbcIndX zp) (.mem (.indirectX zp)) sbcEffect s

/-- $E5 SBC ZeroPage, rule R242. -/
def execSbcZp (zp : Byte) (s : State) : Out := runRead (.sbcZp zp) (.mem (.zeroPage zp)) sbcEffect s

/-- $E9 SBC Immediate, rule R242. -/
def execSbcImm (imm : Byte) (s : State) : Out := runRead (.sbcImm imm) (.imm imm) sbcEffect s

/-- $ED SBC Absolute, rule R242. -/
def execSbcAbs (addr : Word) (s : State) : Out := runRead (.sbcAbs addr) (.mem (.absolute addr)) sbcEffect s

/-- $F1 SBC IndirectY, rule R242. -/
def execSbcIndY (zp : Byte) (s : State) : Out := runRead (.sbcIndY zp) (.mem (.indirectY zp)) sbcEffect s

/-- $F5 SBC ZeroPageX, rule R242. -/
def execSbcZpX (zp : Byte) (s : State) : Out := runRead (.sbcZpX zp) (.mem (.zeroPageX zp)) sbcEffect s

/-- $F9 SBC AbsoluteY, rule R242. -/
def execSbcAbsY (addr : Word) (s : State) : Out := runRead (.sbcAbsY addr) (.mem (.absoluteY addr)) sbcEffect s

/-- $FD SBC AbsoluteX, rule R242. -/
def execSbcAbsX (addr : Word) (s : State) : Out := runRead (.sbcAbsX addr) (.mem (.absoluteX addr)) sbcEffect s

/-- AND: `A <- A & m; SetNZ(A)` (rule R243). -/
def andEffect (m : Byte) (s : State) : State := { s with a := s.a &&& m }.setNZ (s.a &&& m)

/-- $21 AND IndirectX, rule R243. -/
def execAndIndX (zp : Byte) (s : State) : Out := runRead (.andIndX zp) (.mem (.indirectX zp)) andEffect s

/-- $25 AND ZeroPage, rule R243. -/
def execAndZp (zp : Byte) (s : State) : Out := runRead (.andZp zp) (.mem (.zeroPage zp)) andEffect s

/-- $29 AND Immediate, rule R243. -/
def execAndImm (imm : Byte) (s : State) : Out := runRead (.andImm imm) (.imm imm) andEffect s

/-- $2D AND Absolute, rule R243. -/
def execAndAbs (addr : Word) (s : State) : Out := runRead (.andAbs addr) (.mem (.absolute addr)) andEffect s

/-- $31 AND IndirectY, rule R243. -/
def execAndIndY (zp : Byte) (s : State) : Out := runRead (.andIndY zp) (.mem (.indirectY zp)) andEffect s

/-- $35 AND ZeroPageX, rule R243. -/
def execAndZpX (zp : Byte) (s : State) : Out := runRead (.andZpX zp) (.mem (.zeroPageX zp)) andEffect s

/-- $39 AND AbsoluteY, rule R243. -/
def execAndAbsY (addr : Word) (s : State) : Out := runRead (.andAbsY addr) (.mem (.absoluteY addr)) andEffect s

/-- $3D AND AbsoluteX, rule R243. -/
def execAndAbsX (addr : Word) (s : State) : Out := runRead (.andAbsX addr) (.mem (.absoluteX addr)) andEffect s

/-- ORA: `A <- A | m; SetNZ(A)` (rule R244). -/
def oraEffect (m : Byte) (s : State) : State := { s with a := s.a ||| m }.setNZ (s.a ||| m)

/-- $01 ORA IndirectX, rule R244. -/
def execOraIndX (zp : Byte) (s : State) : Out := runRead (.oraIndX zp) (.mem (.indirectX zp)) oraEffect s

/-- $05 ORA ZeroPage, rule R244. -/
def execOraZp (zp : Byte) (s : State) : Out := runRead (.oraZp zp) (.mem (.zeroPage zp)) oraEffect s

/-- $09 ORA Immediate, rule R244. -/
def execOraImm (imm : Byte) (s : State) : Out := runRead (.oraImm imm) (.imm imm) oraEffect s

/-- $0D ORA Absolute, rule R244. -/
def execOraAbs (addr : Word) (s : State) : Out := runRead (.oraAbs addr) (.mem (.absolute addr)) oraEffect s

/-- $11 ORA IndirectY, rule R244. -/
def execOraIndY (zp : Byte) (s : State) : Out := runRead (.oraIndY zp) (.mem (.indirectY zp)) oraEffect s

/-- $15 ORA ZeroPageX, rule R244. -/
def execOraZpX (zp : Byte) (s : State) : Out := runRead (.oraZpX zp) (.mem (.zeroPageX zp)) oraEffect s

/-- $19 ORA AbsoluteY, rule R244. -/
def execOraAbsY (addr : Word) (s : State) : Out := runRead (.oraAbsY addr) (.mem (.absoluteY addr)) oraEffect s

/-- $1D ORA AbsoluteX, rule R244. -/
def execOraAbsX (addr : Word) (s : State) : Out := runRead (.oraAbsX addr) (.mem (.absoluteX addr)) oraEffect s

/-- EOR: `A <- A ^ m; SetNZ(A)` (rule R245). -/
def eorEffect (m : Byte) (s : State) : State := { s with a := s.a ^^^ m }.setNZ (s.a ^^^ m)

/-- $41 EOR IndirectX, rule R245. -/
def execEorIndX (zp : Byte) (s : State) : Out := runRead (.eorIndX zp) (.mem (.indirectX zp)) eorEffect s

/-- $45 EOR ZeroPage, rule R245. -/
def execEorZp (zp : Byte) (s : State) : Out := runRead (.eorZp zp) (.mem (.zeroPage zp)) eorEffect s

/-- $49 EOR Immediate, rule R245. -/
def execEorImm (imm : Byte) (s : State) : Out := runRead (.eorImm imm) (.imm imm) eorEffect s

/-- $4D EOR Absolute, rule R245. -/
def execEorAbs (addr : Word) (s : State) : Out := runRead (.eorAbs addr) (.mem (.absolute addr)) eorEffect s

/-- $51 EOR IndirectY, rule R245. -/
def execEorIndY (zp : Byte) (s : State) : Out := runRead (.eorIndY zp) (.mem (.indirectY zp)) eorEffect s

/-- $55 EOR ZeroPageX, rule R245. -/
def execEorZpX (zp : Byte) (s : State) : Out := runRead (.eorZpX zp) (.mem (.zeroPageX zp)) eorEffect s

/-- $59 EOR AbsoluteY, rule R245. -/
def execEorAbsY (addr : Word) (s : State) : Out := runRead (.eorAbsY addr) (.mem (.absoluteY addr)) eorEffect s

/-- $5D EOR AbsoluteX, rule R245. -/
def execEorAbsX (addr : Word) (s : State) : Out := runRead (.eorAbsX addr) (.mem (.absoluteX addr)) eorEffect s

/-- BIT: Z from `A & m`, N and V from m's bits 7 and 6; A is not written (rule R246). -/
def bitEffect (m : Byte) (s : State) : State :=
  ((s.setFlag maskZ (s.a &&& m == 0)).setFlag maskN (m.getLsbD 7)).setFlag maskV (m.getLsbD 6)

/-- $24 BIT ZeroPage, rule R246. -/
def execBitZp (zp : Byte) (s : State) : Out := runRead (.bitZp zp) (.mem (.zeroPage zp)) bitEffect s

/-- $2C BIT Absolute, rule R246. -/
def execBitAbs (addr : Word) (s : State) : Out := runRead (.bitAbs addr) (.mem (.absolute addr)) bitEffect s

/-- CMP: `Compare(A, m)` (rule R248). -/
def cmpEffect (m : Byte) (s : State) : State := s.compare s.a m

/-- $C1 CMP IndirectX, rule R248. -/
def execCmpIndX (zp : Byte) (s : State) : Out := runRead (.cmpIndX zp) (.mem (.indirectX zp)) cmpEffect s

/-- $C5 CMP ZeroPage, rule R248. -/
def execCmpZp (zp : Byte) (s : State) : Out := runRead (.cmpZp zp) (.mem (.zeroPage zp)) cmpEffect s

/-- $C9 CMP Immediate, rule R248. -/
def execCmpImm (imm : Byte) (s : State) : Out := runRead (.cmpImm imm) (.imm imm) cmpEffect s

/-- $CD CMP Absolute, rule R248. -/
def execCmpAbs (addr : Word) (s : State) : Out := runRead (.cmpAbs addr) (.mem (.absolute addr)) cmpEffect s

/-- $D1 CMP IndirectY, rule R248. -/
def execCmpIndY (zp : Byte) (s : State) : Out := runRead (.cmpIndY zp) (.mem (.indirectY zp)) cmpEffect s

/-- $D5 CMP ZeroPageX, rule R248. -/
def execCmpZpX (zp : Byte) (s : State) : Out := runRead (.cmpZpX zp) (.mem (.zeroPageX zp)) cmpEffect s

/-- $D9 CMP AbsoluteY, rule R248. -/
def execCmpAbsY (addr : Word) (s : State) : Out := runRead (.cmpAbsY addr) (.mem (.absoluteY addr)) cmpEffect s

/-- $DD CMP AbsoluteX, rule R248. -/
def execCmpAbsX (addr : Word) (s : State) : Out := runRead (.cmpAbsX addr) (.mem (.absoluteX addr)) cmpEffect s

/-- CPX: `Compare(X, m)` (rule R249). -/
def cpxEffect (m : Byte) (s : State) : State := s.compare s.x m

/-- $E0 CPX Immediate, rule R249. -/
def execCpxImm (imm : Byte) (s : State) : Out := runRead (.cpxImm imm) (.imm imm) cpxEffect s

/-- $E4 CPX ZeroPage, rule R249. -/
def execCpxZp (zp : Byte) (s : State) : Out := runRead (.cpxZp zp) (.mem (.zeroPage zp)) cpxEffect s

/-- $EC CPX Absolute, rule R249. -/
def execCpxAbs (addr : Word) (s : State) : Out := runRead (.cpxAbs addr) (.mem (.absolute addr)) cpxEffect s

/-- CPY: `Compare(Y, m)` (rule R250). -/
def cpyEffect (m : Byte) (s : State) : State := s.compare s.y m

/-- $C0 CPY Immediate, rule R250. -/
def execCpyImm (imm : Byte) (s : State) : Out := runRead (.cpyImm imm) (.imm imm) cpyEffect s

/-- $C4 CPY ZeroPage, rule R250. -/
def execCpyZp (zp : Byte) (s : State) : Out := runRead (.cpyZp zp) (.mem (.zeroPage zp)) cpyEffect s

/-- $CC CPY Absolute, rule R250. -/
def execCpyAbs (addr : Word) (s : State) : Out := runRead (.cpyAbs addr) (.mem (.absolute addr)) cpyEffect s

/-- INC: `r <- u8(m + 1)`, then `SetNZ(r)` after the write (rule R251). -/
def incOp : RmwOp where
  value := fun m _ => m + 1
  before := fun _ s => s
  after := fun r s => s.setNZ r

/-- $E6 INC ZeroPage, rule R251. -/
def execIncZp (zp : Byte) (s : State) : Out := runRmw (.incZp zp) (.mem (.zeroPage zp)) incOp s

/-- $EE INC Absolute, rule R251. -/
def execIncAbs (addr : Word) (s : State) : Out := runRmw (.incAbs addr) (.mem (.absolute addr)) incOp s

/-- $F6 INC ZeroPageX, rule R251. -/
def execIncZpX (zp : Byte) (s : State) : Out := runRmw (.incZpX zp) (.mem (.zeroPageX zp)) incOp s

/-- $FE INC AbsoluteX, rule R251. -/
def execIncAbsX (addr : Word) (s : State) : Out := runRmw (.incAbsX addr) (.mem (.absoluteX addr)) incOp s

/-- DEC: `r <- u8(m - 1)`, then `SetNZ(r)` after the write (rule R252). -/
def decOp : RmwOp where
  value := fun m _ => m - 1
  before := fun _ s => s
  after := fun r s => s.setNZ r

/-- $C6 DEC ZeroPage, rule R252. -/
def execDecZp (zp : Byte) (s : State) : Out := runRmw (.decZp zp) (.mem (.zeroPage zp)) decOp s

/-- $CE DEC Absolute, rule R252. -/
def execDecAbs (addr : Word) (s : State) : Out := runRmw (.decAbs addr) (.mem (.absolute addr)) decOp s

/-- $D6 DEC ZeroPageX, rule R252. -/
def execDecZpX (zp : Byte) (s : State) : Out := runRmw (.decZpX zp) (.mem (.zeroPageX zp)) decOp s

/-- $DE DEC AbsoluteX, rule R252. -/
def execDecAbsX (addr : Word) (s : State) : Out := runRmw (.decAbsX addr) (.mem (.absoluteX addr)) decOp s

/-- INX: `X <- u8(X + 1); SetNZ(X)` (rule R253). -/
def inxEffect (s : State) : State := { s with x := s.x + 1 }.setNZ (s.x + 1)

/-- $E8 INX, rule R253. -/
def execInx (s : State) : Out := runImplied .inx inxEffect s

/-- INY: `Y <- u8(Y + 1); SetNZ(Y)` (rule R254). -/
def inyEffect (s : State) : State := { s with y := s.y + 1 }.setNZ (s.y + 1)

/-- $C8 INY, rule R254. -/
def execIny (s : State) : Out := runImplied .iny inyEffect s

/-- DEX: `X <- u8(X - 1); SetNZ(X)` (rule R255). -/
def dexEffect (s : State) : State := { s with x := s.x - 1 }.setNZ (s.x - 1)

/-- $CA DEX, rule R255. -/
def execDex (s : State) : Out := runImplied .dex dexEffect s

/-- DEY: `Y <- u8(Y - 1); SetNZ(Y)` (rule R256). -/
def deyEffect (s : State) : State := { s with y := s.y - 1 }.setNZ (s.y - 1)

/-- $88 DEY, rule R256. -/
def execDey (s : State) : Out := runImplied .dey deyEffect s

end Sys2Proof.Machine
end

