-- ==== Sys2Proof/Machine/Control.lean ====
section
/-! DEFINITION. Branches, jumps, calls, returns, BRK and NOP (44_control.md rules R280 to R294). -/

namespace Sys2Proof.Machine

/-- $90 BCC Relative, rule R281. -/
def execBcc (off : Int) (s : State) : Out := runBranch (.bcc off) off maskC false s

/-- $B0 BCS Relative, rule R282. -/
def execBcs (off : Int) (s : State) : Out := runBranch (.bcs off) off maskC true s

/-- $F0 BEQ Relative, rule R283. -/
def execBeq (off : Int) (s : State) : Out := runBranch (.beq off) off maskZ true s

/-- $30 BMI Relative, rule R284. -/
def execBmi (off : Int) (s : State) : Out := runBranch (.bmi off) off maskN true s

/-- $D0 BNE Relative, rule R285. -/
def execBne (off : Int) (s : State) : Out := runBranch (.bne off) off maskZ false s

/-- $10 BPL Relative, rule R286. -/
def execBpl (off : Int) (s : State) : Out := runBranch (.bpl off) off maskN false s

/-- $50 BVC Relative, rule R287. -/
def execBvc (off : Int) (s : State) : Out := runBranch (.bvc off) off maskV false s

/-- $70 BVS Relative, rule R288. -/
def execBvs (off : Int) (s : State) : Out := runBranch (.bvs off) off maskV true s

/-- $4C JMP Absolute, rule R289. -/
def execJmpAbs (addr : Word) (s : State) : Out := runJump (.jmpAbs addr) (.absolute addr) s

/-- $6C JMP Indirect, rule R289. -/
def execJmpInd (ptr : Word) (s : State) : Out := runJump (.jmpInd ptr) (.indirect ptr) s

/-- JSR: push `PC - 1`, high byte first, then jump (rule R290). -/
def jsrEffect (target : Word) (pc0 : Word) (s : State) : Result Unit :=
  (push16 pc0 (s.pc - 1) s).bind fun _ s => .ok () { s with pc := target }

/-- $20 JSR Absolute, rule R290. -/
def execJsr (addr : Word) (s : State) : Out := runStack (.jsr addr) (jsrEffect addr) s

/-- RTS: pull the address and add 1 (rule R291). -/
def rtsEffect (pc0 : Word) (s : State) : Result Unit :=
  (pull16 pc0 s).bind fun w s => .ok () { s with pc := w + 1 }

/-- $60 RTS, rule R291. -/
def execRts (s : State) : Out := runStack .rts rtsEffect s

/-- BRK: an interrupt entry that pushes BRK + 2 and P with bits 4 and 5 set (rule R292). -/
def brkEffect (pc0 : Word) (s : State) : Result Unit :=
  enterInterrupt pc0 (s.pc + 1) (pushedByInstruction s.p) irqVector s

/-- $00 BRK, rule R292. -/
def execBrk (s : State) : Out := runStack .brk brkEffect s

/-- RTI: the return from an interrupt (rule R293). -/
def rtiEffect (pc0 : Word) (s : State) : Result Unit := returnFromInterrupt pc0 s

/-- $40 RTI, rule R293. -/
def execRti (s : State) : Out := runStack .rti rtiEffect s

/-- NOP does nothing (rule R294). -/
def nopEffect (s : State) : State := s

/-- $EA NOP, rule R294. -/
def execNop (s : State) : Out := runImplied .nop nopEffect s

end Sys2Proof.Machine
end

