-- ==== Sys2Proof/Machine/LoadStore.lean ====
section
/-! DEFINITION. Loads, stores and register transfers (41_load_store.md rules R220 to R231). -/

namespace Sys2Proof.Machine

/-- LDA: `A <- v; SetNZ(A)` (rule R220). -/
def ldaEffect (v : Byte) (s : State) : State := { s with a := v }.setNZ v

/-- $A1 LDA IndirectX, rule R220. -/
def execLdaIndX (zp : Byte) (s : State) : Out := runRead (.ldaIndX zp) (.mem (.indirectX zp)) ldaEffect s

/-- $A5 LDA ZeroPage, rule R220. -/
def execLdaZp (zp : Byte) (s : State) : Out := runRead (.ldaZp zp) (.mem (.zeroPage zp)) ldaEffect s

/-- $A9 LDA Immediate, rule R220. -/
def execLdaImm (imm : Byte) (s : State) : Out := runRead (.ldaImm imm) (.imm imm) ldaEffect s

/-- $AD LDA Absolute, rule R220. -/
def execLdaAbs (addr : Word) (s : State) : Out := runRead (.ldaAbs addr) (.mem (.absolute addr)) ldaEffect s

/-- $B1 LDA IndirectY, rule R220. -/
def execLdaIndY (zp : Byte) (s : State) : Out := runRead (.ldaIndY zp) (.mem (.indirectY zp)) ldaEffect s

/-- $B5 LDA ZeroPageX, rule R220. -/
def execLdaZpX (zp : Byte) (s : State) : Out := runRead (.ldaZpX zp) (.mem (.zeroPageX zp)) ldaEffect s

/-- $B9 LDA AbsoluteY, rule R220. -/
def execLdaAbsY (addr : Word) (s : State) : Out := runRead (.ldaAbsY addr) (.mem (.absoluteY addr)) ldaEffect s

/-- $BD LDA AbsoluteX, rule R220. -/
def execLdaAbsX (addr : Word) (s : State) : Out := runRead (.ldaAbsX addr) (.mem (.absoluteX addr)) ldaEffect s

/-- LDX: `X <- v; SetNZ(X)` (rule R221). -/
def ldxEffect (v : Byte) (s : State) : State := { s with x := v }.setNZ v

/-- $A2 LDX Immediate, rule R221. -/
def execLdxImm (imm : Byte) (s : State) : Out := runRead (.ldxImm imm) (.imm imm) ldxEffect s

/-- $A6 LDX ZeroPage, rule R221. -/
def execLdxZp (zp : Byte) (s : State) : Out := runRead (.ldxZp zp) (.mem (.zeroPage zp)) ldxEffect s

/-- $AE LDX Absolute, rule R221. -/
def execLdxAbs (addr : Word) (s : State) : Out := runRead (.ldxAbs addr) (.mem (.absolute addr)) ldxEffect s

/-- $B6 LDX ZeroPageY, rule R221. -/
def execLdxZpY (zp : Byte) (s : State) : Out := runRead (.ldxZpY zp) (.mem (.zeroPageY zp)) ldxEffect s

/-- $BE LDX AbsoluteY, rule R221. -/
def execLdxAbsY (addr : Word) (s : State) : Out := runRead (.ldxAbsY addr) (.mem (.absoluteY addr)) ldxEffect s

/-- LDY: `Y <- v; SetNZ(Y)` (rule R222). -/
def ldyEffect (v : Byte) (s : State) : State := { s with y := v }.setNZ v

/-- $A0 LDY Immediate, rule R222. -/
def execLdyImm (imm : Byte) (s : State) : Out := runRead (.ldyImm imm) (.imm imm) ldyEffect s

/-- $A4 LDY ZeroPage, rule R222. -/
def execLdyZp (zp : Byte) (s : State) : Out := runRead (.ldyZp zp) (.mem (.zeroPage zp)) ldyEffect s

/-- $AC LDY Absolute, rule R222. -/
def execLdyAbs (addr : Word) (s : State) : Out := runRead (.ldyAbs addr) (.mem (.absolute addr)) ldyEffect s

/-- $B4 LDY ZeroPageX, rule R222. -/
def execLdyZpX (zp : Byte) (s : State) : Out := runRead (.ldyZpX zp) (.mem (.zeroPageX zp)) ldyEffect s

/-- $BC LDY AbsoluteX, rule R222. -/
def execLdyAbsX (addr : Word) (s : State) : Out := runRead (.ldyAbsX addr) (.mem (.absoluteX addr)) ldyEffect s

/-- STA stores A (rule R223). -/
def staValue (s : State) : Byte := s.a

/-- $81 STA IndirectX, rule R223. -/
def execStaIndX (zp : Byte) (s : State) : Out := runStore (.staIndX zp) (.indirectX zp) staValue s

/-- $85 STA ZeroPage, rule R223. -/
def execStaZp (zp : Byte) (s : State) : Out := runStore (.staZp zp) (.zeroPage zp) staValue s

/-- $8D STA Absolute, rule R223. -/
def execStaAbs (addr : Word) (s : State) : Out := runStore (.staAbs addr) (.absolute addr) staValue s

/-- $91 STA IndirectY, rule R223. -/
def execStaIndY (zp : Byte) (s : State) : Out := runStore (.staIndY zp) (.indirectY zp) staValue s

/-- $95 STA ZeroPageX, rule R223. -/
def execStaZpX (zp : Byte) (s : State) : Out := runStore (.staZpX zp) (.zeroPageX zp) staValue s

/-- $99 STA AbsoluteY, rule R223. -/
def execStaAbsY (addr : Word) (s : State) : Out := runStore (.staAbsY addr) (.absoluteY addr) staValue s

/-- $9D STA AbsoluteX, rule R223. -/
def execStaAbsX (addr : Word) (s : State) : Out := runStore (.staAbsX addr) (.absoluteX addr) staValue s

/-- STX stores X (rule R224). -/
def stxValue (s : State) : Byte := s.x

/-- $86 STX ZeroPage, rule R224. -/
def execStxZp (zp : Byte) (s : State) : Out := runStore (.stxZp zp) (.zeroPage zp) stxValue s

/-- $8E STX Absolute, rule R224. -/
def execStxAbs (addr : Word) (s : State) : Out := runStore (.stxAbs addr) (.absolute addr) stxValue s

/-- $96 STX ZeroPageY, rule R224. -/
def execStxZpY (zp : Byte) (s : State) : Out := runStore (.stxZpY zp) (.zeroPageY zp) stxValue s

/-- STY stores Y (rule R225). -/
def styValue (s : State) : Byte := s.y

/-- $84 STY ZeroPage, rule R225. -/
def execStyZp (zp : Byte) (s : State) : Out := runStore (.styZp zp) (.zeroPage zp) styValue s

/-- $8C STY Absolute, rule R225. -/
def execStyAbs (addr : Word) (s : State) : Out := runStore (.styAbs addr) (.absolute addr) styValue s

/-- $94 STY ZeroPageX, rule R225. -/
def execStyZpX (zp : Byte) (s : State) : Out := runStore (.styZpX zp) (.zeroPageX zp) styValue s

/-- TAX: `X <- A; SetNZ(X)` (rule R226). -/
def taxEffect (s : State) : State := { s with x := s.a }.setNZ s.a

/-- $AA TAX, rule R226. -/
def execTax (s : State) : Out := runImplied .tax taxEffect s

/-- TAY: `Y <- A; SetNZ(Y)` (rule R227). -/
def tayEffect (s : State) : State := { s with y := s.a }.setNZ s.a

/-- $A8 TAY, rule R227. -/
def execTay (s : State) : Out := runImplied .tay tayEffect s

/-- TSX: `X <- S; SetNZ(X)` (rule R228). -/
def tsxEffect (s : State) : State := { s with x := s.sp }.setNZ s.sp

/-- $BA TSX, rule R228. -/
def execTsx (s : State) : Out := runImplied .tsx tsxEffect s

/-- TXA: `A <- X; SetNZ(A)` (rule R229). -/
def txaEffect (s : State) : State := { s with a := s.x }.setNZ s.x

/-- $8A TXA, rule R229. -/
def execTxa (s : State) : Out := runImplied .txa txaEffect s

/-- TXS: `S <- X`, no flag (rule R230). -/
def txsEffect (s : State) : State := { s with sp := s.x }

/-- $9A TXS, rule R230. -/
def execTxs (s : State) : Out := runImplied .txs txsEffect s

/-- TYA: `A <- Y; SetNZ(A)` (rule R231). -/
def tyaEffect (s : State) : State := { s with a := s.y }.setNZ s.y

/-- $98 TYA, rule R231. -/
def execTya (s : State) : Out := runImplied .tya tyaEffect s

end Sys2Proof.Machine
end

