-- ==== Sys2Proof/Machine/Shift.lean ====
section
/-! DEFINITION. Shifts and rotates (43_shift_rotate.md rules R270 to R274).  C is written before the result, N and Z
after it, as the rules list them. -/

namespace Sys2Proof.Machine

/-- A shift or rotate of an operand: C is the bit shifted off, N and Z the result's (rule R270). -/
def shiftOp (f : Byte → Byte → Shifted) : RmwOp where
  value := fun m s => (f m s.p).value
  before := fun m s => s.setFlag maskC (f m s.p).carry
  after := fun r s => s.setNZ r

/-- ASL (rule R271). -/
def aslOp : RmwOp := shiftOp shiftAsl

/-- $06 ASL ZeroPage, rule R271. -/
def execAslZp (zp : Byte) (s : State) : Out := runRmw (.aslZp zp) (.mem (.zeroPage zp)) aslOp s

/-- $0A ASL Accumulator, rule R271. -/
def execAslAcc (s : State) : Out := runRmw .aslAcc .acc aslOp s

/-- $0E ASL Absolute, rule R271. -/
def execAslAbs (addr : Word) (s : State) : Out := runRmw (.aslAbs addr) (.mem (.absolute addr)) aslOp s

/-- $16 ASL ZeroPageX, rule R271. -/
def execAslZpX (zp : Byte) (s : State) : Out := runRmw (.aslZpX zp) (.mem (.zeroPageX zp)) aslOp s

/-- $1E ASL AbsoluteX, rule R271. -/
def execAslAbsX (addr : Word) (s : State) : Out := runRmw (.aslAbsX addr) (.mem (.absoluteX addr)) aslOp s

/-- LSR (rule R272). -/
def lsrOp : RmwOp := shiftOp shiftLsr

/-- $46 LSR ZeroPage, rule R272. -/
def execLsrZp (zp : Byte) (s : State) : Out := runRmw (.lsrZp zp) (.mem (.zeroPage zp)) lsrOp s

/-- $4A LSR Accumulator, rule R272. -/
def execLsrAcc (s : State) : Out := runRmw .lsrAcc .acc lsrOp s

/-- $4E LSR Absolute, rule R272. -/
def execLsrAbs (addr : Word) (s : State) : Out := runRmw (.lsrAbs addr) (.mem (.absolute addr)) lsrOp s

/-- $56 LSR ZeroPageX, rule R272. -/
def execLsrZpX (zp : Byte) (s : State) : Out := runRmw (.lsrZpX zp) (.mem (.zeroPageX zp)) lsrOp s

/-- $5E LSR AbsoluteX, rule R272. -/
def execLsrAbsX (addr : Word) (s : State) : Out := runRmw (.lsrAbsX addr) (.mem (.absoluteX addr)) lsrOp s

/-- ROL (rule R273). -/
def rolOp : RmwOp := shiftOp shiftRol

/-- $26 ROL ZeroPage, rule R273. -/
def execRolZp (zp : Byte) (s : State) : Out := runRmw (.rolZp zp) (.mem (.zeroPage zp)) rolOp s

/-- $2A ROL Accumulator, rule R273. -/
def execRolAcc (s : State) : Out := runRmw .rolAcc .acc rolOp s

/-- $2E ROL Absolute, rule R273. -/
def execRolAbs (addr : Word) (s : State) : Out := runRmw (.rolAbs addr) (.mem (.absolute addr)) rolOp s

/-- $36 ROL ZeroPageX, rule R273. -/
def execRolZpX (zp : Byte) (s : State) : Out := runRmw (.rolZpX zp) (.mem (.zeroPageX zp)) rolOp s

/-- $3E ROL AbsoluteX, rule R273. -/
def execRolAbsX (addr : Word) (s : State) : Out := runRmw (.rolAbsX addr) (.mem (.absoluteX addr)) rolOp s

/-- ROR (rule R274). -/
def rorOp : RmwOp := shiftOp shiftRor

/-- $66 ROR ZeroPage, rule R274. -/
def execRorZp (zp : Byte) (s : State) : Out := runRmw (.rorZp zp) (.mem (.zeroPage zp)) rorOp s

/-- $6A ROR Accumulator, rule R274. -/
def execRorAcc (s : State) : Out := runRmw .rorAcc .acc rorOp s

/-- $6E ROR Absolute, rule R274. -/
def execRorAbs (addr : Word) (s : State) : Out := runRmw (.rorAbs addr) (.mem (.absolute addr)) rorOp s

/-- $76 ROR ZeroPageX, rule R274. -/
def execRorZpX (zp : Byte) (s : State) : Out := runRmw (.rorZpX zp) (.mem (.zeroPageX zp)) rorOp s

/-- $7E ROR AbsoluteX, rule R274. -/
def execRorAbsX (addr : Word) (s : State) : Out := runRmw (.rorAbsX addr) (.mem (.absoluteX addr)) rorOp s

end Sys2Proof.Machine
end

