-- ==== Sys2Proof/Machine/StackFlags.lean ====
section
/-! DEFINITION. Stack and flag instructions (45_stack_flags.md rules R300 to R310). -/

namespace Sys2Proof.Machine

/-- PHA: `Push(A)` (rule R300). -/
def phaEffect (pc0 : Word) (s : State) : Result Unit := push pc0 s.a s

/-- $48 PHA, rule R300. -/
def execPha (s : State) : Out := runStack .pha phaEffect s

/-- PHP: `Push(P | 0x30)` (rule R301). -/
def phpEffect (pc0 : Word) (s : State) : Result Unit := push pc0 (pushedByInstruction s.p) s

/-- $08 PHP, rule R301. -/
def execPhp (s : State) : Out := runStack .php phpEffect s

/-- PLA: `A <- Pull(); SetNZ(A)` (rule R302). -/
def plaEffect (pc0 : Word) (s : State) : Result Unit :=
  (pull pc0 s).bind fun b s => .ok () ({ s with a := b }.setNZ b)

/-- $68 PLA, rule R302. -/
def execPla (s : State) : Out := runStack .pla plaEffect s

/-- PLP: `P <- (Pull() & 0xCF) | 0x20` (rule R303). -/
def plpEffect (pc0 : Word) (s : State) : Result Unit :=
  (pull pc0 s).bind fun b s => .ok () { s with p := pulledP b }

/-- $28 PLP, rule R303. -/
def execPlp (s : State) : Out := runStack .plp plpEffect s

/-- CLC: `P.C <- 0` (rule R304). -/
def clcEffect (s : State) : State := s.setFlag maskC false

/-- $18 CLC, rule R304. -/
def execClc (s : State) : Out := runImplied .clc clcEffect s

/-- SEC: `P.C <- 1` (rule R305). -/
def secEffect (s : State) : State := s.setFlag maskC true

/-- $38 SEC, rule R305. -/
def execSec (s : State) : Out := runImplied .sec secEffect s

/-- CLI: `P.I <- 0` (rule R306). -/
def cliEffect (s : State) : State := s.setFlag maskI false

/-- $58 CLI, rule R306. -/
def execCli (s : State) : Out := runImplied .cli cliEffect s

/-- SEI: `P.I <- 1` (rule R307). -/
def seiEffect (s : State) : State := s.setFlag maskI true

/-- $78 SEI, rule R307. -/
def execSei (s : State) : Out := runImplied .sei seiEffect s

/-- CLD: `P.D <- 0` (rule R308). -/
def cldEffect (s : State) : State := s.setFlag maskD false

/-- $D8 CLD, rule R308. -/
def execCld (s : State) : Out := runImplied .cld cldEffect s

/-- SED: `P.D <- 1` (rule R309). -/
def sedEffect (s : State) : State := s.setFlag maskD true

/-- $F8 SED, rule R309. -/
def execSed (s : State) : Out := runImplied .sed sedEffect s

/-- CLV: `P.V <- 0` (rule R310). -/
def clvEffect (s : State) : State := s.setFlag maskV false

/-- $B8 CLV, rule R310. -/
def execClv (s : State) : Out := runImplied .clv clvEffect s

end Sys2Proof.Machine
end

