-- ==== Sys2Proof/Machine/Undocumented.lean ====
section
/-! DEFINITION. Undocumented opcodes (46_undocumented.md rules R320 to R330): a first primitive on the operand, then a
second one on the byte the first left there, with no access of its own (rule R320). -/

namespace Sys2Proof.Machine

/-- LAX: LDA then LDX of the one byte read (rule R321). -/
def laxEffect (m : Byte) (s : State) : State := { s with a := m, x := m }.setNZ m

/-- $A3 LAX IndirectX, rule R321. -/
def execLaxIndX (zp : Byte) (s : State) : Out := runRead (.laxIndX zp) (.mem (.indirectX zp)) laxEffect s

/-- $A7 LAX ZeroPage, rule R321. -/
def execLaxZp (zp : Byte) (s : State) : Out := runRead (.laxZp zp) (.mem (.zeroPage zp)) laxEffect s

/-- $AF LAX Absolute, rule R321. -/
def execLaxAbs (addr : Word) (s : State) : Out := runRead (.laxAbs addr) (.mem (.absolute addr)) laxEffect s

/-- $B3 LAX IndirectY, rule R321. -/
def execLaxIndY (zp : Byte) (s : State) : Out := runRead (.laxIndY zp) (.mem (.indirectY zp)) laxEffect s

/-- $B7 LAX ZeroPageY, rule R321. -/
def execLaxZpY (zp : Byte) (s : State) : Out := runRead (.laxZpY zp) (.mem (.zeroPageY zp)) laxEffect s

/-- $BF LAX AbsoluteY, rule R321. -/
def execLaxAbsY (addr : Word) (s : State) : Out := runRead (.laxAbsY addr) (.mem (.absoluteY addr)) laxEffect s

/-- SAX stores `A & X` (rule R322). -/
def saxValue (s : State) : Byte := s.a &&& s.x

/-- $83 SAX IndirectX, rule R322. -/
def execSaxIndX (zp : Byte) (s : State) : Out := runStore (.saxIndX zp) (.indirectX zp) saxValue s

/-- $87 SAX ZeroPage, rule R322. -/
def execSaxZp (zp : Byte) (s : State) : Out := runStore (.saxZp zp) (.zeroPage zp) saxValue s

/-- $8F SAX Absolute, rule R322. -/
def execSaxAbs (addr : Word) (s : State) : Out := runStore (.saxAbs addr) (.absolute addr) saxValue s

/-- $97 SAX ZeroPageY, rule R322. -/
def execSaxZpY (zp : Byte) (s : State) : Out := runStore (.saxZpY zp) (.zeroPageY zp) saxValue s

/-- A read-modify-write operation followed by a second primitive on the byte written (rule R320). -/
def RmwOp.andThen (first : RmwOp) (second : Byte → State → State) : RmwOp where
  value := first.value
  before := first.before
  after := fun r s => second r (first.after r s)

/-- DCP: DEC then CMP (rule R323). -/
def dcpOp : RmwOp := decOp.andThen cmpEffect

/-- $C3 DCP IndirectX, rule R323. -/
def execDcpIndX (zp : Byte) (s : State) : Out := runRmw (.dcpIndX zp) (.mem (.indirectX zp)) dcpOp s

/-- $C7 DCP ZeroPage, rule R323. -/
def execDcpZp (zp : Byte) (s : State) : Out := runRmw (.dcpZp zp) (.mem (.zeroPage zp)) dcpOp s

/-- $CF DCP Absolute, rule R323. -/
def execDcpAbs (addr : Word) (s : State) : Out := runRmw (.dcpAbs addr) (.mem (.absolute addr)) dcpOp s

/-- $D3 DCP IndirectY, rule R323. -/
def execDcpIndY (zp : Byte) (s : State) : Out := runRmw (.dcpIndY zp) (.mem (.indirectY zp)) dcpOp s

/-- $D7 DCP ZeroPageX, rule R323. -/
def execDcpZpX (zp : Byte) (s : State) : Out := runRmw (.dcpZpX zp) (.mem (.zeroPageX zp)) dcpOp s

/-- $DB DCP AbsoluteY, rule R323. -/
def execDcpAbsY (addr : Word) (s : State) : Out := runRmw (.dcpAbsY addr) (.mem (.absoluteY addr)) dcpOp s

/-- $DF DCP AbsoluteX, rule R323. -/
def execDcpAbsX (addr : Word) (s : State) : Out := runRmw (.dcpAbsX addr) (.mem (.absoluteX addr)) dcpOp s

/-- ISC: INC then SBC (rule R324). -/
def iscOp : RmwOp := incOp.andThen sbcEffect

/-- $E3 ISC IndirectX, rule R324. -/
def execIscIndX (zp : Byte) (s : State) : Out := runRmw (.iscIndX zp) (.mem (.indirectX zp)) iscOp s

/-- $E7 ISC ZeroPage, rule R324. -/
def execIscZp (zp : Byte) (s : State) : Out := runRmw (.iscZp zp) (.mem (.zeroPage zp)) iscOp s

/-- $EF ISC Absolute, rule R324. -/
def execIscAbs (addr : Word) (s : State) : Out := runRmw (.iscAbs addr) (.mem (.absolute addr)) iscOp s

/-- $F3 ISC IndirectY, rule R324. -/
def execIscIndY (zp : Byte) (s : State) : Out := runRmw (.iscIndY zp) (.mem (.indirectY zp)) iscOp s

/-- $F7 ISC ZeroPageX, rule R324. -/
def execIscZpX (zp : Byte) (s : State) : Out := runRmw (.iscZpX zp) (.mem (.zeroPageX zp)) iscOp s

/-- $FB ISC AbsoluteY, rule R324. -/
def execIscAbsY (addr : Word) (s : State) : Out := runRmw (.iscAbsY addr) (.mem (.absoluteY addr)) iscOp s

/-- $FF ISC AbsoluteX, rule R324. -/
def execIscAbsX (addr : Word) (s : State) : Out := runRmw (.iscAbsX addr) (.mem (.absoluteX addr)) iscOp s

/-- SLO: ASL then ORA (rule R325). -/
def sloOp : RmwOp := aslOp.andThen oraEffect

/-- $03 SLO IndirectX, rule R325. -/
def execSloIndX (zp : Byte) (s : State) : Out := runRmw (.sloIndX zp) (.mem (.indirectX zp)) sloOp s

/-- $07 SLO ZeroPage, rule R325. -/
def execSloZp (zp : Byte) (s : State) : Out := runRmw (.sloZp zp) (.mem (.zeroPage zp)) sloOp s

/-- $0F SLO Absolute, rule R325. -/
def execSloAbs (addr : Word) (s : State) : Out := runRmw (.sloAbs addr) (.mem (.absolute addr)) sloOp s

/-- $13 SLO IndirectY, rule R325. -/
def execSloIndY (zp : Byte) (s : State) : Out := runRmw (.sloIndY zp) (.mem (.indirectY zp)) sloOp s

/-- $17 SLO ZeroPageX, rule R325. -/
def execSloZpX (zp : Byte) (s : State) : Out := runRmw (.sloZpX zp) (.mem (.zeroPageX zp)) sloOp s

/-- $1B SLO AbsoluteY, rule R325. -/
def execSloAbsY (addr : Word) (s : State) : Out := runRmw (.sloAbsY addr) (.mem (.absoluteY addr)) sloOp s

/-- $1F SLO AbsoluteX, rule R325. -/
def execSloAbsX (addr : Word) (s : State) : Out := runRmw (.sloAbsX addr) (.mem (.absoluteX addr)) sloOp s

/-- RLA: ROL then AND (rule R326). -/
def rlaOp : RmwOp := rolOp.andThen andEffect

/-- $23 RLA IndirectX, rule R326. -/
def execRlaIndX (zp : Byte) (s : State) : Out := runRmw (.rlaIndX zp) (.mem (.indirectX zp)) rlaOp s

/-- $27 RLA ZeroPage, rule R326. -/
def execRlaZp (zp : Byte) (s : State) : Out := runRmw (.rlaZp zp) (.mem (.zeroPage zp)) rlaOp s

/-- $2F RLA Absolute, rule R326. -/
def execRlaAbs (addr : Word) (s : State) : Out := runRmw (.rlaAbs addr) (.mem (.absolute addr)) rlaOp s

/-- $33 RLA IndirectY, rule R326. -/
def execRlaIndY (zp : Byte) (s : State) : Out := runRmw (.rlaIndY zp) (.mem (.indirectY zp)) rlaOp s

/-- $37 RLA ZeroPageX, rule R326. -/
def execRlaZpX (zp : Byte) (s : State) : Out := runRmw (.rlaZpX zp) (.mem (.zeroPageX zp)) rlaOp s

/-- $3B RLA AbsoluteY, rule R326. -/
def execRlaAbsY (addr : Word) (s : State) : Out := runRmw (.rlaAbsY addr) (.mem (.absoluteY addr)) rlaOp s

/-- $3F RLA AbsoluteX, rule R326. -/
def execRlaAbsX (addr : Word) (s : State) : Out := runRmw (.rlaAbsX addr) (.mem (.absoluteX addr)) rlaOp s

/-- SRE: LSR then EOR (rule R327). -/
def sreOp : RmwOp := lsrOp.andThen eorEffect

/-- $43 SRE IndirectX, rule R327. -/
def execSreIndX (zp : Byte) (s : State) : Out := runRmw (.sreIndX zp) (.mem (.indirectX zp)) sreOp s

/-- $47 SRE ZeroPage, rule R327. -/
def execSreZp (zp : Byte) (s : State) : Out := runRmw (.sreZp zp) (.mem (.zeroPage zp)) sreOp s

/-- $4F SRE Absolute, rule R327. -/
def execSreAbs (addr : Word) (s : State) : Out := runRmw (.sreAbs addr) (.mem (.absolute addr)) sreOp s

/-- $53 SRE IndirectY, rule R327. -/
def execSreIndY (zp : Byte) (s : State) : Out := runRmw (.sreIndY zp) (.mem (.indirectY zp)) sreOp s

/-- $57 SRE ZeroPageX, rule R327. -/
def execSreZpX (zp : Byte) (s : State) : Out := runRmw (.sreZpX zp) (.mem (.zeroPageX zp)) sreOp s

/-- $5B SRE AbsoluteY, rule R327. -/
def execSreAbsY (addr : Word) (s : State) : Out := runRmw (.sreAbsY addr) (.mem (.absoluteY addr)) sreOp s

/-- $5F SRE AbsoluteX, rule R327. -/
def execSreAbsX (addr : Word) (s : State) : Out := runRmw (.sreAbsX addr) (.mem (.absoluteX addr)) sreOp s

/-- RRA: ROR then ADC; ADC adds the carry ROR produced (rule R328). -/
def rraOp : RmwOp := rorOp.andThen adcEffect

/-- $63 RRA IndirectX, rule R328. -/
def execRraIndX (zp : Byte) (s : State) : Out := runRmw (.rraIndX zp) (.mem (.indirectX zp)) rraOp s

/-- $67 RRA ZeroPage, rule R328. -/
def execRraZp (zp : Byte) (s : State) : Out := runRmw (.rraZp zp) (.mem (.zeroPage zp)) rraOp s

/-- $6F RRA Absolute, rule R328. -/
def execRraAbs (addr : Word) (s : State) : Out := runRmw (.rraAbs addr) (.mem (.absolute addr)) rraOp s

/-- $73 RRA IndirectY, rule R328. -/
def execRraIndY (zp : Byte) (s : State) : Out := runRmw (.rraIndY zp) (.mem (.indirectY zp)) rraOp s

/-- $77 RRA ZeroPageX, rule R328. -/
def execRraZpX (zp : Byte) (s : State) : Out := runRmw (.rraZpX zp) (.mem (.zeroPageX zp)) rraOp s

/-- $7B RRA AbsoluteY, rule R328. -/
def execRraAbsY (addr : Word) (s : State) : Out := runRmw (.rraAbsY addr) (.mem (.absoluteY addr)) rraOp s

/-- $7F RRA AbsoluteX, rule R328. -/
def execRraAbsX (addr : Word) (s : State) : Out := runRmw (.rraAbsX addr) (.mem (.absoluteX addr)) rraOp s

/-- $04 NOP ZeroPage, rule R329. -/
def execNopZp04 (zp : Byte) (s : State) : Out := runSkip (.nopZp04 zp) (.zeroPage zp) s

/-- $0C NOP Absolute, rule R329. -/
def execNopAbs0C (addr : Word) (s : State) : Out := runSkip (.nopAbs0C addr) (.absolute addr) s

/-- $14 NOP ZeroPageX, rule R329. -/
def execNopZpX14 (zp : Byte) (s : State) : Out := runSkip (.nopZpX14 zp) (.zeroPageX zp) s

/-- $1A NOP, rule R329. -/
def execNopImp1A (s : State) : Out := runImplied .nopImp1A nopEffect s

/-- $1C NOP AbsoluteX, rule R329. -/
def execNopAbsX1C (addr : Word) (s : State) : Out := runSkip (.nopAbsX1C addr) (.absoluteX addr) s

/-- $34 NOP ZeroPageX, rule R329. -/
def execNopZpX34 (zp : Byte) (s : State) : Out := runSkip (.nopZpX34 zp) (.zeroPageX zp) s

/-- $3A NOP, rule R329. -/
def execNopImp3A (s : State) : Out := runImplied .nopImp3A nopEffect s

/-- $3C NOP AbsoluteX, rule R329. -/
def execNopAbsX3C (addr : Word) (s : State) : Out := runSkip (.nopAbsX3C addr) (.absoluteX addr) s

/-- $44 NOP ZeroPage, rule R329. -/
def execNopZp44 (zp : Byte) (s : State) : Out := runSkip (.nopZp44 zp) (.zeroPage zp) s

/-- $54 NOP ZeroPageX, rule R329. -/
def execNopZpX54 (zp : Byte) (s : State) : Out := runSkip (.nopZpX54 zp) (.zeroPageX zp) s

/-- $5A NOP, rule R329. -/
def execNopImp5A (s : State) : Out := runImplied .nopImp5A nopEffect s

/-- $5C NOP AbsoluteX, rule R329. -/
def execNopAbsX5C (addr : Word) (s : State) : Out := runSkip (.nopAbsX5C addr) (.absoluteX addr) s

/-- $64 NOP ZeroPage, rule R329. -/
def execNopZp64 (zp : Byte) (s : State) : Out := runSkip (.nopZp64 zp) (.zeroPage zp) s

/-- $74 NOP ZeroPageX, rule R329. -/
def execNopZpX74 (zp : Byte) (s : State) : Out := runSkip (.nopZpX74 zp) (.zeroPageX zp) s

/-- $7A NOP, rule R329. -/
def execNopImp7A (s : State) : Out := runImplied .nopImp7A nopEffect s

/-- $7C NOP AbsoluteX, rule R329. -/
def execNopAbsX7C (addr : Word) (s : State) : Out := runSkip (.nopAbsX7C addr) (.absoluteX addr) s

/-- $80 NOP Immediate, rule R329. -/
def execNopImm80 (imm : Byte) (s : State) : Out := runImplied (.nopImm80 imm) nopEffect s

/-- $82 NOP Immediate, rule R329. -/
def execNopImm82 (imm : Byte) (s : State) : Out := runImplied (.nopImm82 imm) nopEffect s

/-- $89 NOP Immediate, rule R329. -/
def execNopImm89 (imm : Byte) (s : State) : Out := runImplied (.nopImm89 imm) nopEffect s

/-- $C2 NOP Immediate, rule R329. -/
def execNopImmC2 (imm : Byte) (s : State) : Out := runImplied (.nopImmC2 imm) nopEffect s

/-- $D4 NOP ZeroPageX, rule R329. -/
def execNopZpXD4 (zp : Byte) (s : State) : Out := runSkip (.nopZpXD4 zp) (.zeroPageX zp) s

/-- $DA NOP, rule R329. -/
def execNopImpDA (s : State) : Out := runImplied .nopImpDA nopEffect s

/-- $DC NOP AbsoluteX, rule R329. -/
def execNopAbsXDC (addr : Word) (s : State) : Out := runSkip (.nopAbsXDC addr) (.absoluteX addr) s

/-- $E2 NOP Immediate, rule R329. -/
def execNopImmE2 (imm : Byte) (s : State) : Out := runImplied (.nopImmE2 imm) nopEffect s

/-- $F4 NOP ZeroPageX, rule R329. -/
def execNopZpXF4 (zp : Byte) (s : State) : Out := runSkip (.nopZpXF4 zp) (.zeroPageX zp) s

/-- $FA NOP, rule R329. -/
def execNopImpFA (s : State) : Out := runImplied .nopImpFA nopEffect s

/-- $FC NOP AbsoluteX, rule R329. -/
def execNopAbsXFC (addr : Word) (s : State) : Out := runSkip (.nopAbsXFC addr) (.absoluteX addr) s

/-- $EB SBC Immediate, rule R330. -/
def execSbcImmEB (imm : Byte) (s : State) : Out := runRead (.sbcImmEB imm) (.imm imm) sbcEffect s

end Sys2Proof.Machine
end

