-- ==== Sys2Proof/Machine/Step.lean ====
section
/-! DEFINITION. One step of the console (60_exceptions.md rules R351 and R372): one interrupt service or one
instruction, then the PPU's dots. -/

namespace Sys2Proof.Machine

/-- The instruction part of a CPU step (40_addressing.md rule R180): fetch, then the instruction's meaning. -/
def execFetched (s : State) : Host.Outcome State Fault Refusal :=
  match fetchInstr s with
  | .ok i s1 => exec i s1
  | .fault r s1 => .fault (r.raise s1)

/-- `cpu_step()` (rule R351): the arbiter's service, or the instruction at PC. -/
def cpuStep (s : State) : Host.Outcome State Fault Refusal :=
  match arbitrate s with
  | some kind => (service kind s).toOutcome
  | none => execFetched s

/-- `step()` (rule R372).  After a fault no step exists (rule R340); without a cartridge it is refused (D41). -/
def step (s : State) : Host.Outcome State Fault Refusal :=
  match s.fault with
  | some r => .fault (.stopped r)
  | none =>
    match s.cart with
    | none => .refused .noCartridge
    | some _ =>
      match cpuStep s with
      | .next s1 => .next (afterCpu s s1)
      | .fault f => .fault f
      | .refused r => .refused r

/-- The machine with an instruction placed where its very next step fetches it (log entry 7). -/
def State.withFetchWord (s : State) (nbits w : Nat) : State := placeInstr (tableBytes nbits w) s

end Sys2Proof.Machine
end

