-- ==== Sys2Proof/Safety.lean ====
section
/-! DEFINITION. The terms the statements use: when the machine runs, what its state keeps, where an operand lies, and the
shapes of instruction the rules of files 41 to 46 share. -/

namespace Sys2Proof.Machine

/-! ## When the machine runs -/

/-- The precondition of `step` (60_exceptions.md rule R372): no fault recorded, a cartridge inserted. -/
def State.running (s : State) : Bool := s.fault.isNone && s.cart.isSome

/-- The byte a bus read of RAM or PRG finds, which has no side effect (20_memory.md rule R88); none elsewhere. -/
def State.peek (s : State) (a : Word) : Option Byte :=
  if a.toNat < 0x2000 then some (s.ram.read (a.toNat % 0x800))
  else if a.toNat < 0x8000 then none
  else s.cart.map fun c => c.prg.read (match c.prgSize with | .kb16 => a.toNat % 0x4000 | .kb32 => a.toNat % 0x8000)

/-- Consecutive bytes found in RAM or PRG from an address on. -/
def State.holds (s : State) : Word → List Byte → Bool
  | _, [] => true
  | a, b :: rest => decide (s.peek a = some b) && s.holds (a + 1) rest

/-- The 16-bit vector PRG holds at an address and the next (rule R89). -/
def State.vector (s : State) (a : Word) : Option Word :=
  match s.peek a, s.peek (a + 1) with
  | some lo, some hi => some (wordOf lo hi)
  | some _, none => none
  | none, some _ => none
  | none, none => none

/-! ## What every reachable state keeps -/

/-- Bits 5 and 4 of P are 1 and 0 (10_state.md rule R35). -/
abbrev State.flagsWf (s : State) : Prop := s.p &&& 0x30 = 0x20

/-- Status bits 4 to 0 are 0 (rule R44), the counters are in range (rule R48) and no NMI request is left between steps
(60_exceptions.md rule R372). -/
abbrev State.ppuWf (s : State) : Prop :=
  s.ppu.status &&& 0x1F = 0 ∧ s.ppu.dot ≤ 340 ∧ s.ppu.scanline ≤ 261 ∧ s.ppu.nmiReq = false

/-- The size of PRG in bytes (rule R52). -/
def PrgSize.bytes : PrgSize → Nat
  | .kb16 => 0x4000
  | .kb32 => 0x8000

/-- A cartridge's memories are canonical and fit its lengths; CHR covers the pattern tables (rules R52, R121). -/
abbrev Cartridge.wf (c : Cartridge) : Prop :=
  c.prg.wf c.prgSize.bytes = true ∧ c.chr.wf c.chrLen = true ∧ 0x2000 ≤ c.chrLen ∧ (c.chrIsRam = true → c.chrLen = 0x2000)

/-- Every memory is in canonical form and within its size (rules R45, R50 to R52). -/
abbrev State.memoryWf (s : State) : Prop :=
  s.ram.wf 0x800 = true ∧ s.ppu.vram.wf 0x800 = true ∧ s.ppu.oam.wf 0x100 = true ∧ s.ppu.pal.wf 0x20 = true ∧
    ∀ c ∈ s.cart, c.wf

/-- The invariant of every step boundary. -/
abbrev State.Inv (s : State) : Prop := s.flagsWf ∧ s.ppuWf ∧ s.memoryWf

/-- The PPU's place in the frame, in dots from (0, 0) (rule R48). -/
def Ppu.framePosition (p : Ppu) : Nat := p.scanline * 341 + p.dot

/-- The dots of a frame: 262 × 341 (rules R48, R365). -/
def frameDots : Nat := 89342

/-! ## Operands -/

/-- The pointer in the zero page at `z`, its high byte wrapping within the page (00_scope.md rule R16). -/
def State.zeroPagePointer (s : State) (z : Byte) : Word := wordOf (s.ram.read z.toNat) (s.ram.read (z + 1).toNat)

/-- The effective address of a data operand and its page-cross bit (40_addressing.md rules R185 to R193).  The indirect
mode is JMP's alone and gives none. -/
def dataAddress (m : MemOperand) (s : State) : Option Resolved :=
  match m with
  | .zeroPage zp => some ⟨zp.setWidth 16, false⟩
  | .zeroPageX zp => some ⟨(zp + s.x).setWidth 16, false⟩
  | .zeroPageY zp => some ⟨(zp + s.y).setWidth 16, false⟩
  | .absolute addr => some ⟨addr, false⟩
  | .absoluteX addr => some (indexed addr s.x)
  | .absoluteY addr => some (indexed addr s.y)
  | .indirect _ => none
  | .indirectX zp => some ⟨s.zeroPagePointer (zp + s.x), false⟩
  | .indirectY zp => some (indexed (s.zeroPagePointer zp) s.y)

/-- The effective address of an instruction's memory operand. -/
def operandAddress (i : Instr) (s : State) : Option Resolved :=
  match i.operand with
  | .mem m => dataAddress m s
  | .implied => none
  | .accumulator => none
  | .immediate _ => none
  | .relative _ => none

/-- Whether the effective address of `i` crosses a page (rule R193); false for an operand that has none. -/
def operandCrosses (i : Instr) (s : State) : Bool :=
  match operandAddress i s with
  | some r => r.crossed
  | none => false

/-- `i` reads the byte `b` as its operand in `s`, with page-cross bit `crossed`, and the bus read leaves `s1`. -/
def OperandByte (i : Instr) (s : State) (b : Byte) (crossed : Bool) (s1 : State) : Prop :=
  (i.operand = .immediate b ∧ crossed = false ∧ s1 = s) ∨
  (∃ r, operandAddress i s = some r ∧ crossed = r.crossed ∧ memRead (startPc i s) r.ea s = .ok b s1)

/-- The bus fault of an access of `i`, with the state it leaves (60_exceptions.md rules R340, R342): the record holds the
address and the PC of the opcode fetch, and `left` is the state the accesses before it made. -/
def accessFault (i : Instr) (kind : Access) (ea : Word) (s left : State) : Out :=
  .fault (.busFault kind ea (s.pc - BitVec.ofNat 16 i.size)
    { left with fault := some (.bus kind ea (s.pc - BitVec.ofNat 16 i.size)) })

/-! ## The shapes of instruction -/

/-- One row of the opcode map (30_encoding.md rule R154): opcode byte, mode, base cycles, whether a page cross adds one. -/
abbrev MapRow := Byte × Mode × Nat × Bool

/-- The row of an instruction. -/
def mapRow (i : Instr) : MapRow :=
  (i.opcode, i.operand.mode, i.entry.baseCycles, i.entry.pageCrossAddsCycle)

/-- A mnemonic's instructions are exactly those of the listed rows (rule R162). -/
def HasRows (m : Mnemonic) (rows : List MapRow) : Prop := ∀ i : Instr, i.mnemonic = m ↔ mapRow i ∈ rows

/-- An instruction on registers alone: it always completes, with `effect` and its base cycles. -/
def RegisterInstr (m : Mnemonic) (rows : List MapRow) (effect : State → State) : Prop :=
  HasRows m rows ∧ ∀ (i : Instr) (s : State), i.mnemonic = m → exec i s = .next (charge i false 0 (effect s))

/-- An instruction that reads its operand: it completes whenever the read does, with `effect` on the byte read and one
cycle more on a page cross where the row says so; where the read faults it stops with that bus fault, as at an unmapped
address. -/
def ReadInstr (m : Mnemonic) (rows : List MapRow) (effect : Byte → State → State) : Prop :=
  HasRows m rows ∧ ∀ (i : Instr) (s : State), i.mnemonic = m →
    (∀ b crossed s1, OperandByte i s b crossed s1 → exec i s = .next (charge i crossed 0 (effect b s1))) ∧
    (∀ r, operandAddress i s = some r → 0x4000 ≤ r.ea.toNat → r.ea.toNat < 0x8000 →
      exec i s = accessFault i .read r.ea s s) ∧
    (∀ r e left, operandAddress i s = some r → memRead (startPc i s) r.ea s = .fault e left →
      ∃ a, e = .bus .read a (startPc i s) ∧ exec i s = accessFault i .read a s left)

/-- An instruction that stores `value`: it completes whenever the write does and reads nothing at its address; where the
write faults it stops with that bus fault, from $4000 on with its own address, at a PPU port with the PPU address the
port writes to (rules R121, R342). -/
def StoreInstr (m : Mnemonic) (rows : List MapRow) (value : State → Byte) : Prop :=
  HasRows m rows ∧ ∀ (i : Instr) (s : State) (r : Resolved), i.mnemonic = m → operandAddress i s = some r →
    (∀ s1, memWrite (startPc i s) r.ea (value s) s = .ok () s1 → exec i s = .next (charge i r.crossed 0 s1)) ∧
    (0x4000 ≤ r.ea.toNat → exec i s = accessFault i .write r.ea s s) ∧
    (∀ e left, memWrite (startPc i s) r.ea (value s) s = .fault e left →
      ∃ a, e = .bus .write a (startPc i s) ∧ exec i s = accessFault i .write a s left)

/-- A read-modify-write instruction: `value` of the byte read and the state after the read is written back; `before` is
written to registers before the write and `after`, given the value written, behind it.  On the accumulator there is no
access.  A read that faults stops it there, as at an unmapped address; a write that faults stops it with `before` done,
as at PRG, which is readable and not writable, and at a PPU port that writes to CHR-ROM (rules R121, R342). -/
def RmwInstr (m : Mnemonic) (rows : List MapRow) (value : Byte → State → Byte) (before : Byte → State → State)
    (after : Byte → State → State) : Prop :=
  HasRows m rows ∧ ∀ (i : Instr) (s : State), i.mnemonic = m →
    (i.operand = .accumulator →
      exec i s = .next (charge i false 0 (after (value s.a s) { before s.a s with a := value s.a s }))) ∧
    (∀ r b s1 s2, operandAddress i s = some r → memRead (startPc i s) r.ea s = .ok b s1 →
      memWrite (startPc i s) r.ea (value b s1) (before b s1) = .ok () s2 →
      exec i s = .next (charge i r.crossed 0 (after (value b s1) s2))) ∧
    (∀ r, operandAddress i s = some r → 0x4000 ≤ r.ea.toNat → r.ea.toNat < 0x8000 →
      exec i s = accessFault i .read r.ea s s) ∧
    (∀ r b s1, operandAddress i s = some r → 0x8000 ≤ r.ea.toNat → memRead (startPc i s) r.ea s = .ok b s1 →
      exec i s = accessFault i .write r.ea s (before b s1)) ∧
    (∀ r e left, operandAddress i s = some r → memRead (startPc i s) r.ea s = .fault e left →
      ∃ a, e = .bus .read a (startPc i s) ∧ exec i s = accessFault i .read a s left) ∧
    (∀ r b s1 e left, operandAddress i s = some r → memRead (startPc i s) r.ea s = .ok b s1 →
      memWrite (startPc i s) r.ea (value b s1) (before b s1) = .fault e left →
      ∃ a, e = .bus .write a (startPc i s) ∧ exec i s = accessFault i .write a s left)

/-- The flag bit each branch tests and the value it branches on (44_control.md rules R281 to R288). -/
def branchTests : List (Mnemonic × Nat × Bool) :=
  [(.bcc, 0, false), (.bcs, 0, true), (.beq, 1, true), (.bne, 1, false), (.bmi, 7, true), (.bpl, 7, false),
   (.bvc, 6, false), (.bvs, 6, true)]

/-- The forms whose row adds a cycle on a page cross (40_addressing.md rule R194). -/
def pageCrossForms : List (Mnemonic × Mode) :=
  [(.adc, .absoluteX), (.adc, .absoluteY), (.adc, .indirectY), (.and, .absoluteX), (.and, .absoluteY),
   (.and, .indirectY), (.cmp, .absoluteX), (.cmp, .absoluteY), (.cmp, .indirectY), (.eor, .absoluteX),
   (.eor, .absoluteY), (.eor, .indirectY), (.lda, .absoluteX), (.lda, .absoluteY), (.lda, .indirectY),
   (.ora, .absoluteX), (.ora, .absoluteY), (.ora, .indirectY), (.sbc, .absoluteX), (.sbc, .absoluteY),
   (.sbc, .indirectY), (.lax, .absoluteY), (.lax, .indirectY), (.ldx, .absoluteY), (.ldy, .absoluteX),
   (.nop, .absoluteX)]

/-- A branch on one flag (44_control.md rule R280): 2 cycles not taken, 3 taken within the page of the next
instruction, 4 taken across it. -/
def BranchInstr (m : Mnemonic) (opcode : Byte) (bit : Nat) (want : Bool) : Prop :=
  HasRows m [(opcode, .relative, 2, false)] ∧ ∀ (i : Instr) (s : State) (off : Int), i.mnemonic = m →
    i.operand = .relative off →
    exec i s =
      if s.p.getLsbD bit = want then
        let target := s.pc + BitVec.ofInt 16 off
        .next { s with
          pc := target
          cyc := s.cyc + (if s.pc.extractLsb' 8 8 = target.extractLsb' 8 8 then 3 else 4) }
      else .next { s with cyc := s.cyc + 2 }

/-- A push onto the stack page of RAM: the byte at `0x0100 | S`, S one lower (10_state.md rule R33). -/
def State.pushed (b : Byte) (s : State) : State :=
  { s with ram := s.ram.write (0x100 + s.sp.toNat) b, sp := s.sp - 1 }

/-- The byte the `n`-th next pull finds (rule R33): the stack page wraps. -/
def State.stackByte (s : State) (n : Nat) : Byte := s.ram.read (0x100 + (s.sp + BitVec.ofNat 8 n).toNat)

/-! ## Which instructions write what -/

/-- Where two states hold the same bytes in every memory. -/
def SameMemory (s t : State) : Prop :=
  t.ram = s.ram ∧ t.ppu.vram = s.ppu.vram ∧ t.ppu.oam = s.ppu.oam ∧ t.ppu.pal = s.ppu.pal ∧
    t.cart.map (fun c => c.prg) = s.cart.map (fun c => c.prg) ∧ t.cart.map (fun c => c.chr) = s.cart.map (fun c => c.chr)

/-- The instructions that write A (rule R30). -/
def writesA : List Mnemonic :=
  [.lda, .txa, .tya, .pla, .adc, .sbc, .and, .ora, .eor, .asl, .lsr, .rol, .ror, .lax, .isc, .slo, .rla, .sre, .rra]

/-- The instructions that write X (rule R30). -/
def writesX : List Mnemonic := [.ldx, .tax, .tsx, .inx, .dex, .lax]

/-- The instructions that write Y (rule R30). -/
def writesY : List Mnemonic := [.ldy, .tay, .iny, .dey]

/-- The instructions that write S (rule R31). -/
def writesS : List Mnemonic := [.txs, .pha, .php, .pla, .plp, .jsr, .rts, .brk, .rti]

/-- The instructions that write C (rule R37). -/
def writesC : List Mnemonic :=
  [.adc, .sbc, .cmp, .cpx, .cpy, .asl, .lsr, .rol, .ror, .clc, .sec, .plp, .rti, .dcp, .isc, .slo, .rla, .sre, .rra]

/-- The instructions that write Z and N (rule R37). -/
def writesNZ : List Mnemonic :=
  [.lda, .ldx, .ldy, .tax, .tay, .tsx, .txa, .tya, .pla, .adc, .sbc, .and, .ora, .eor, .bit, .cmp, .cpx, .cpy, .inc,
   .dec, .inx, .iny, .dex, .dey, .asl, .lsr, .rol, .ror, .plp, .rti, .lax, .dcp, .isc, .slo, .rla, .sre, .rra]

/-- The instructions that write V (rule R37). -/
def writesV : List Mnemonic := [.adc, .sbc, .bit, .clv, .plp, .rti, .isc, .rra]

/-- The instructions that write I (rule R37). -/
def writesI : List Mnemonic := [.sei, .cli, .plp, .rti, .brk]

/-- The instructions that write D (rule R37). -/
def writesD : List Mnemonic := [.sed, .cld, .plp, .rti]

/-- The instructions that store to memory: stores, read-modify-write forms and pushes (rule R196). -/
def writesMemory : List Mnemonic :=
  [.sta, .stx, .sty, .sax, .inc, .dec, .asl, .lsr, .rol, .ror, .dcp, .isc, .slo, .rla, .sre, .rra, .pha, .php, .jsr,
   .brk]

/-- The instructions whose PC is not that of the following instruction (44_control.md). -/
def writesPc : List Mnemonic :=
  [.bcc, .bcs, .beq, .bmi, .bne, .bpl, .bvc, .bvs, .jmp, .jsr, .rts, .brk, .rti]

end Sys2Proof.Machine
end

