-- ==== Sys2Proof/Certificates/Slice0/Obligations.lean ====
section
/-! DEFINITION. The statements about the machine, each from the numbered rules of spec/ its docstring names. -/

open Sys2Proof Sys2Proof.Machine

/-! ## Encoding -/

/-- One word of each family, written out from rules R151, R152 and R154, decodes to the instruction it stands for. -/
def Obligations.SampleWordsDecodeAsWritten : Prop :=
  decodeTableWord 16 0x42A9 = some (.ldaImm 0x42) ∧
  decodeTableWord 24 0x12349D = some (.staAbsX 0x1234) ∧
  decodeTableWord 8 0x9A = some .txs ∧
  decodeTableWord 16 0x4071 = some (.adcIndY 0x40) ∧
  decodeTableWord 24 0x20022C = some (.bitAbs 0x2002) ∧
  decodeTableWord 16 0x0FD6 = some (.decZpX 0x0F) ∧
  decodeTableWord 8 0x6A = some .rorAcc ∧
  decodeTableWord 16 0xFBD0 = some (.bne (-5)) ∧
  decodeTableWord 24 0x02FF6C = some (.jmpInd 0x02FF) ∧
  decodeTableWord 8 0x28 = some .plp ∧
  decodeTableWord 16 0xF0B7 = some (.laxZpY 0xF0) ∧
  decodeTableWord 24 0x02FF1C = some (.nopAbsX1C 0x02FF)

/-- Every well-formed instruction, with every value of its operands, decodes back from its own encoding, whatever bytes
follow; an optional row does so where P_EXTRA_NOPS is true (rules R150 to R152, R155, R157). -/
def Obligations.EncodedInstructionDecodesBack : Prop :=
  ∀ (extraNops : Bool) (i : Instr) (rest : List Byte), i.wellFormed = true → (i.optional = true → extraNops = true) →
    decode extraNops (encode i ++ rest) = .ok (i, rest)

/-- Bytes that decode are the encoding of the instruction they decode to: no two encodings mean one instruction, and
none reads as its neighbour (rules R150, R155). -/
def Obligations.DecodedBytesAreTheEncoding : Prop :=
  ∀ (extraNops : Bool) (bytes rest : List Byte) (i : Instr), decode extraNops bytes = .ok (i, rest) →
    bytes = encode i ++ rest ∧ i.wellFormed = true ∧ (i.optional = true → extraNops = true)

/-- The table read by mnemonic and mode (rule R159): the official opcode of a pair where one exists, in both
configurations; for the pairs only optional rows have, the lowest byte, where P_EXTRA_NOPS is true. -/
def Obligations.ReverseLookupFindsTheOfficialOpcode : Prop :=
  (∀ (extraNops : Bool) (i : Instr), i.optional = false →
    reverseLookup extraNops i.mnemonic i.operand.mode = some i.opcode) ∧
  (∀ i j : Instr, i.optional = false → j.optional = false → i.mnemonic = j.mnemonic →
    i.operand.mode = j.operand.mode → i.opcode = j.opcode) ∧
  reverseLookup true .nop .implied = some 0xEA ∧ reverseLookup true .sbc .immediate = some 0xE9 ∧
  reverseLookup true .nop .immediate = some 0x80 ∧ reverseLookup true .nop .zeroPage = some 0x04 ∧
  reverseLookup true .nop .zeroPageX = some 0x14 ∧ reverseLookup true .nop .absoluteX = some 0x1C ∧
  reverseLookup true .nop .absolute = some 0x0C ∧
  (∀ mode : Mode, mode ≠ .implied → reverseLookup false .nop mode = none)

/-! ## Fetch and step -/

/-- A step whose PC stands on plain bytes that decode to an instruction, with no interrupt to service, runs that
instruction with PC behind it, and then ticks the PPU (rules R180, R351, R372). -/
def Obligations.StepRunsTheDecodedInstruction : Prop :=
  ∀ (s : State) (bytes : List Byte) (i : Instr), s.running = true → arbitrate s = none →
    s.holds s.pc bytes = true → decode s.params.extraNops bytes = .ok (i, []) →
    step s =
      match exec i { s with pc := s.pc + BitVec.ofNat 16 i.size } with
      | .next t => .next (afterCpu s t)
      | .fault f => .fault f
      | .refused r => .refused r

/-- An opcode fetch that finds no instruction stops the step.  A byte with no row raises DecodeFault, the 25 undefined
bytes in every configuration and the 28 optional ones where P_EXTRA_NOPS is false: the opcode's read has happened and PC
stands behind it (rules R156, R341).  A fetch from $4000 to $7FFF raises the read's BusFault with nothing else changed
(rules R83, R342). -/
def Obligations.OpcodeFetchFaults : Prop :=
  ∀ s : State, s.running = true → arbitrate s = none →
    (∀ (s1 : State) (b : Byte), memRead s.pc s.pc s = .ok b s1 →
      (b ∈ ([0x02, 0x0B, 0x12, 0x22, 0x2B, 0x32, 0x42, 0x4B, 0x52, 0x62, 0x6B, 0x72, 0x8B, 0x92, 0x93, 0x9B, 0x9C, 0x9E,
          0x9F, 0xAB, 0xB2, 0xBB, 0xCB, 0xD2, 0xF2] : List Byte) ∨
        b ∈ ([0x04, 0x0C, 0x14, 0x1A, 0x1C, 0x34, 0x3A, 0x3C, 0x44, 0x54, 0x5A, 0x5C, 0x64, 0x74, 0x7A, 0x7C, 0x80,
          0x82, 0x89, 0xC2, 0xD4, 0xDA, 0xDC, 0xE2, 0xEB, 0xF4, 0xFA, 0xFC] : List Byte) ∧
          s.params.extraNops = false) →
      step s = .fault (.decodeFault b s.pc { s1 with pc := s.pc + 1, fault := some (.decode b s.pc) })) ∧
    (0x4000 ≤ s.pc.toNat → s.pc.toNat < 0x8000 →
      step s = .fault (.busFault .read s.pc s.pc { s with fault := some (.bus .read s.pc s.pc) }))

/-! ## Interrupts, reset and power-up -/

/-- Reset service (rule R353): S falls by 3 with no write, I is set, PC comes from $FFFC, the latch is cleared, 7 cycles;
nothing else changes before the PPU's ticks. -/
def Obligations.ResetServiceWritesOnlySPIAndPc : Prop :=
  ∀ (s : State) (w : Word), s.running = true → s.irql = some .reset → s.vector 0xFFFC = some w →
    step s = .next (afterCpu s { s with
      sp := s.sp - 3, p := setFlag maskI true s.p, pc := w, irql := none, cyc := s.cyc + 7 })

/-- NMI and IRQ service (rule R352): PC high, PC low and P with Break clear and bit 5 set are pushed, I is set, PC comes
from $FFFA or $FFFE, the latch is cleared, 7 cycles; nothing else changes before the PPU's ticks. -/
def Obligations.InterruptServicePushesPcAndFlags : Prop :=
  ∀ (s : State) (kind : Interrupt) (vec w : Word), s.running = true → s.irql = some kind →
    (kind = .nmi ∧ vec = 0xFFFA ∨ kind = .irq ∧ vec = 0xFFFE ∧ s.p.getLsbD 2 = false) → s.vector vec = some w →
    step s = .next (afterCpu s
      { ((s.pushed (s.pc.extractLsb' 8 8)).pushed (s.pc.extractLsb' 0 8)).pushed ((s.p &&& 0xEF) ||| 0x20) with
        p := setFlag maskI true s.p, pc := w, irql := none, cyc := s.cyc + 7 })

/-- The arbiter (rule R351): a step services the latched interrupt or executes an instruction, never both; an IRQ waits
in the latch while I is set, and NMI and Reset are serviced whatever I is. -/
def Obligations.ArbiterServicesOrExecutes : Prop :=
  ∀ s : State,
    ((s.irql = none ∨ s.irql = some .irq ∧ s.p.getLsbD 2 = true) →
      cpuStep s = execFetched s ∧ ∀ t, cpuStep s = .next t → t.irql = s.irql) ∧
    (∀ kind, s.irql = some kind → (kind = .irq → s.p.getLsbD 2 = false) →
      cpuStep s = (service kind s).toOutcome ∧
      ∀ t, cpuStep s = .next t → t.irql = none ∧ t.p.getLsbD 2 = true ∧ t.cyc = s.cyc + 7)

/-- The latch (rule R350): Reset over NMI over IRQ; a request of no higher priority changes nothing.  Warm reset and
`assert_irq` are such requests and nothing else (rules R373, R392). -/
def Obligations.LatchKeepsTheHighestRequest : Prop :=
  (∀ s : State, s.raise .reset = { s with irql := some .reset }) ∧
  (∀ s : State, s.raise .nmi =
    { s with irql := if s.irql = some .reset then some .reset else some .nmi }) ∧
  (∀ s : State, s.raise .irq = { s with irql := if s.irql = none then some .irq else s.irql }) ∧
  (∀ (s : State) (c : Cartridge), s.cart = some c → warmReset s = .done { s with irql := some .reset }) ∧
  (∀ s : State, assertIrq s = .done (s.raise .irq))

/-- `power_up()` (rule R390) leaves every piece of state at its power-up value: registers and PPU as listed, Reset
latched, no fault, memories from the parameters, CHR-RAM zero, the rest of the cartridge as inserted. -/
def Obligations.PowerUpLeavesTheListedValues : Prop :=
  ∀ (s : State) (c : Cartridge), s.cart = some c → ∃ t, powerUp s = .done t ∧
    t.a = 0 ∧ t.x = 0 ∧ t.y = 0 ∧ t.sp = 0 ∧ t.p = 0x20 ∧ t.pc = 0 ∧ t.cyc = 0 ∧ t.irql = some .reset ∧
    t.fault = none ∧ t.ram = s.params.ramInit ∧
    t.ppu = ⟨0, 0, 0, 0, s.params.oamInit, 0, 0, 0, false, 0, 0, 0, false, s.params.vramInit, s.params.palInit⟩ ∧
    t.params = s.params ∧
    (c.chrIsRam = false → t.cart = some c) ∧
    (c.chrIsRam = true → t.cart = some { c with chr := [] } ∧ ∀ k, Memory.read [] k = 0)

/-- The first step after power-up services Reset (rule R391): A = X = Y = 0, S = $FD, P = $24, PC the Reset vector, CYC
= 7, PPU at scanline 0 dot 21, every other value as at power-up.  Under `P_SPRITE_FLAGS = draw` the status bits may
have been drawn, and the model's draw counter counts them (log entry 5). -/
def Obligations.FirstStepServicesReset : Prop :=
  ∀ (params : Params) (c : Cartridge) (w : Word), (State.powerUp params (some c)).vector 0xFFFC = some w →
    ∃ status draws, step (State.powerUp params (some c)) = .next
      { State.powerUp params (some c) with
        sp := 0xFD, p := 0x24, pc := w, irql := none, cyc := 7, draws := draws
        ppu := { (State.powerUp params (some c)).ppu with dot := 21, status := status } } ∧
      (params.spriteFlags = .never → status = 0 ∧ draws = 0)

/-! ## The buses and the PPU's ports -/

/-- The CPU bus map (rules R82, R83, R84, R100, R131): RAM mirrored below $2000, the PPU's ports to $3FFF by `a & 7`, PRG
from $8000 for reads alone, and a bus fault everywhere else. -/
def Obligations.CpuBusRoutesByAddress : Prop :=
  ∀ (pc0 a : Word) (d : Byte) (s : State),
    (a.toNat < 0x2000 → memRead pc0 a s = .ok (s.ram.read (a &&& 0x07FF).toNat) s ∧
      memWrite pc0 a d s = .ok () { s with ram := s.ram.write (a &&& 0x07FF).toNat d }) ∧
    (0x2000 ≤ a.toNat → a.toNat < 0x4000 → ∀ port : PpuPort,
      [PpuPort.ctrl, .mask, .status, .oamAddr, .oamData, .scroll, .addr, .data][(a &&& 7).toNat]? = some port →
      memRead pc0 a s = readPort pc0 port s ∧ memWrite pc0 a d s = writePort pc0 port d s) ∧
    (0x4000 ≤ a.toNat → a.toNat < 0x8000 → memRead pc0 a s = .fault (.bus .read a pc0) s) ∧
    (0x8000 ≤ a.toNat → ∀ c, s.cart = some c → memRead pc0 a s =
      .ok (c.prg.read (match c.prgSize with | .kb16 => (a &&& 0x3FFF).toNat | .kb32 => (a &&& 0x7FFF).toNat)) s) ∧
    (0x4000 ≤ a.toNat → memWrite pc0 a d s = .fault (.bus .write a pc0) s)

/-- A byte written to RAM is read back through every mirror of its address, and every other RAM byte reads as before
(rules R82, R84, R140). -/
def Obligations.RamReadsBackThroughMirrors : Prop :=
  ∀ (pc0 a b : Word) (d : Byte) (s : State), s.ram.wf 0x800 = true → a.toNat < 0x2000 → b.toNat < 0x2000 →
    ∃ t, memWrite pc0 a d s = .ok () t ∧
      memRead pc0 b t = .ok (if a &&& 0x07FF = b &&& 0x07FF then d else s.ram.read (b &&& 0x07FF).toNat) t

/-- A status read returns the status bits 7 to 5 as they were, then clears VBlank and the write toggle and nothing else;
`nmi_req` stays (rule R102). -/
def Obligations.StatusReadClearsVBlankAndToggle : Prop :=
  ∀ (pc0 : Word) (s : State), ∃ (b status : Byte),
    readPort pc0 .status s = .ok b { s with ppu := { s.ppu with status := status, w := false } } ∧
    (∀ k, k < 8 → b.getLsbD k = (decide (5 ≤ k) && s.ppu.status.getLsbD k)) ∧
    (∀ k, k < 8 → status.getLsbD k = (decide (k ≠ 7) && s.ppu.status.getLsbD k))

/-- A read of a write-only port returns `P_PPU_OPEN_BUS` and a write of the status port is ignored (rule R101).  A fixed
parameter is returned with no change of state; a drawn one is a free value of the model, which counts the draw (log
entry 4). -/
def Obligations.WriteOnlyPortsReadTheOpenBus : Prop :=
  ∀ (pc0 : Word) (s : State) (port : PpuPort), port ∈ [PpuPort.ctrl, .mask, .oamAddr, .scroll, .addr] →
    (∀ b, s.params.openBus = .fixed b → readPort pc0 port s = .ok b s) ∧
    (s.params.openBus = .draw → ∃ b, readPort pc0 port s = .ok b { s with draws := s.draws + 1 }) ∧
    (∀ d, writePort pc0 .status d s = .ok () s)

/-- The Ctrl, Mask, OAMAddr and OAMData ports (rules R103 to R107): a Ctrl write also sets t[11:10], and raises no NMI
request; OAM is read at `oamaddr`, and a write there steps it. -/
def Obligations.CtrlMaskAndOamPorts : Prop :=
  ∀ (pc0 : Word) (d : Byte) (s : State),
    (∃ t : BitVec 15, writePort pc0 .ctrl d s = .ok () { s with ppu := { s.ppu with ctrl := d, t := t } } ∧
      t.extractLsb' 10 2 = d.extractLsb' 0 2 ∧ t.extractLsb' 0 10 = s.ppu.t.extractLsb' 0 10 ∧
      t.extractLsb' 12 3 = s.ppu.t.extractLsb' 12 3) ∧
    writePort pc0 .mask d s = .ok () { s with ppu := { s.ppu with mask := d } } ∧
    writePort pc0 .oamAddr d s = .ok () { s with ppu := { s.ppu with oamaddr := d } } ∧
    readPort pc0 .oamData s = .ok (s.ppu.oam.read s.ppu.oamaddr.toNat) s ∧
    (∃ oam : Memory, writePort pc0 .oamData d s =
        .ok () { s with ppu := { s.ppu with oam := oam, oamaddr := s.ppu.oamaddr + 1 } } ∧
      (s.ppu.oam.wf 0x100 = true →
        ∀ k, oam.read k = if k = s.ppu.oamaddr.toNat then d else s.ppu.oam.read k))

/-- The Scroll and Addr ports (rules R108, R109): two halves of t gated by w; the second Addr write copies t to v. -/
def Obligations.ScrollAndAddrWritesFillT : Prop :=
  ∀ (pc0 : Word) (d : Byte) (s : State),
    (s.ppu.w = false → ∃ t : BitVec 15,
      writePort pc0 .scroll d s = .ok () { s with ppu := { s.ppu with t := t, x := d.extractLsb' 0 3, w := true } } ∧
      t.extractLsb' 0 5 = d.extractLsb' 3 5 ∧ t.extractLsb' 5 10 = s.ppu.t.extractLsb' 5 10) ∧
    (s.ppu.w = true → ∃ t : BitVec 15,
      writePort pc0 .scroll d s = .ok () { s with ppu := { s.ppu with t := t, w := false } } ∧
      t.extractLsb' 12 3 = d.extractLsb' 0 3 ∧ t.extractLsb' 5 5 = d.extractLsb' 3 5 ∧
      t.extractLsb' 0 5 = s.ppu.t.extractLsb' 0 5 ∧ t.extractLsb' 10 2 = s.ppu.t.extractLsb' 10 2) ∧
    (s.ppu.w = false → ∃ t : BitVec 15,
      writePort pc0 .addr d s = .ok () { s with ppu := { s.ppu with t := t, w := true } } ∧
      t.extractLsb' 8 6 = d.extractLsb' 0 6 ∧ t.extractLsb' 14 1 = 0 ∧
      t.extractLsb' 0 8 = s.ppu.t.extractLsb' 0 8) ∧
    (s.ppu.w = true → ∃ t : BitVec 15,
      writePort pc0 .addr d s = .ok () { s with ppu := { s.ppu with t := t, v := t, w := false } } ∧
      t.extractLsb' 0 8 = d ∧ t.extractLsb' 8 7 = s.ppu.t.extractLsb' 8 7)

/-- A data-port read (rule R110): below $3F00 it returns the old buffer and refills it with the byte at the address; in
the palette it returns the palette byte and refills the buffer with the nametable byte $1000 beneath.  The byte at an
address is CHR's below $2000 and the nametables' from there (rules R120 to R122).  v then steps by 1, or by 32 with ctrl
bit 2. -/
def Obligations.DataPortReadIsBuffered : Prop :=
  ∀ (pc0 : Word) (s : State) (c : Cartridge) (a : BitVec 14) (v : BitVec 15), s.cart = some c →
    a = s.ppu.v.extractLsb' 0 14 → v = s.ppu.v + (if s.ppu.ctrl.getLsbD 2 then 32 else 1) →
    (a.toNat < 0x2000 → readPort pc0 .data s =
      .ok s.ppu.rdbuf { s with ppu := { s.ppu with rdbuf := c.chr.read a.toNat, v := v } }) ∧
    (0x2000 ≤ a.toNat → a.toNat < 0x3F00 → readPort pc0 .data s =
      .ok s.ppu.rdbuf { s with ppu := { s.ppu with rdbuf := s.ppu.vram.read (ntIndex c.mirroring a), v := v } }) ∧
    (0x3F00 ≤ a.toNat → readPort pc0 .data s = .ok (s.ppu.pal.read (palIndex a))
      { s with ppu := { s.ppu with rdbuf := s.ppu.vram.read (ntIndex c.mirroring (a - 0x1000)), v := v } })

/-- A data-port write (rules R111, R120, R121): to CHR-RAM, the nametables or the palette by address; a write to CHR-ROM
faults or is ignored as `P_CHR_ROM_WRITE` says; v then steps by 1 or 32.  The fault's record holds the PPU address (rule
R342) with two zero bits in front, which is the model's form of it (log entry 15). -/
def Obligations.DataPortWriteGoesByAddress : Prop :=
  ∀ (pc0 : Word) (d : Byte) (s : State) (c : Cartridge) (a : BitVec 14) (v : BitVec 15), s.cart = some c →
    a = s.ppu.v.extractLsb' 0 14 → v = s.ppu.v + (if s.ppu.ctrl.getLsbD 2 then 32 else 1) →
    (a.toNat < 0x2000 → c.chrIsRam = true → writePort pc0 .data d s =
      .ok () { s with cart := some { c with chr := c.chr.write a.toNat d }, ppu := { s.ppu with v := v } }) ∧
    (a.toNat < 0x2000 → c.chrIsRam = false → s.params.chrRomWrite = .ignore →
      writePort pc0 .data d s = .ok () { s with ppu := { s.ppu with v := v } }) ∧
    (a.toNat < 0x2000 → c.chrIsRam = false → s.params.chrRomWrite = .fault →
      writePort pc0 .data d s = .fault (.bus .write (a.setWidth 16) pc0) s) ∧
    (0x2000 ≤ a.toNat → a.toNat < 0x3F00 → writePort pc0 .data d s =
      .ok () { s with ppu := { s.ppu with v := v, vram := s.ppu.vram.write (ntIndex c.mirroring a) d } }) ∧
    (0x3F00 ≤ a.toNat → writePort pc0 .data d s =
      .ok () { s with ppu := { s.ppu with v := v, pal := s.ppu.pal.write (palIndex a) d } })

/-- Nametable and palette mirroring (rules R122, R123): vertical takes address bit 10, horizontal bit 11, as the index's
bit 10; $3000 mirrors $2000; the palette repeats every 32 bytes, and its four sprite backdrops are the background's. -/
def Obligations.NametableAndPaletteMirrors : Prop :=
  (∀ a : BitVec 14, ntIndex .vertical a = (a &&& 0x07FF).toNat ∧
    ntIndex .horizontal a = (a >>> 1 &&& 0x0400 ||| a &&& 0x03FF).toNat) ∧
  (∀ (m : Mirroring) (a : BitVec 14), a.toNat < 0x3000 → ntIndex m (a + 0x1000) = ntIndex m a) ∧
  (∀ a : BitVec 14, palIndex (a + 0x20) = palIndex a) ∧
  (∀ a : BitVec 14, a &&& 0x13 = 0x10 → palIndex a = palIndex (a - 0x10)) ∧
  (∀ a : BitVec 14, a &&& 0x13 ≠ 0x10 → palIndex a = (a &&& 0x1F).toNat)

/-! ## The PPU's timing -/

/-- `n` ticks move the frame position by `n` dots, modulo a frame of 262 × 341, and keep the counters in range (rules
R48, R360). -/
def Obligations.TicksAdvanceTheFramePosition : Prop :=
  ∀ (n : Nat) (s : State), s.ppu.dot ≤ 340 → s.ppu.scanline ≤ 261 →
    (ppuTicks n s).ppu.framePosition = (s.ppu.framePosition + n) % frameDots ∧
    (ppuTicks n s).ppu.dot ≤ 340 ∧ (ppuTicks n s).ppu.scanline ≤ 261

/-- The events of a tick, by the position it enters (rules R361 to R363): (241, 1) sets VBlank and, with ctrl bit 7, the
NMI request; (261, 0) clears status bits 7, 6 and 5 and leaves the request; every other position changes neither VBlank
nor the request, nor, unless sprite flags are drawn (log entry 5), the status. -/
def Obligations.TickEventsByPosition : Prop :=
  ∀ s t : State, t = ppuTick s →
    (t.ppu.scanline = 241 ∧ t.ppu.dot = 1 →
      t.ppu.status = s.ppu.status ||| 0x80 ∧ t.ppu.nmiReq = (s.ppu.nmiReq || s.ppu.ctrl.getLsbD 7)) ∧
    (t.ppu.scanline = 261 ∧ t.ppu.dot = 0 →
      t.ppu.status = s.ppu.status &&& 0x1F ∧ t.ppu.nmiReq = s.ppu.nmiReq) ∧
    (¬ (t.ppu.scanline = 241 ∧ t.ppu.dot = 1) → ¬ (t.ppu.scanline = 261 ∧ t.ppu.dot = 0) →
      t.ppu.status.getLsbD 7 = s.ppu.status.getLsbD 7 ∧ t.ppu.nmiReq = s.ppu.nmiReq ∧
      (s.params.spriteFlags = .never ∨ 241 ≤ t.ppu.scanline ∧ t.ppu.scanline ≤ 261 → t.ppu.status = s.ppu.status))

/-- The frame's cadence from (0, 0) (rule R365): VBlank is 1 from tick 82182, at (241, 1), for 6819 ticks, until the
tick that enters (261, 0); the NMI request is raised at tick 82182 if it is enabled; 89342 ticks end at (0, 0). -/
def Obligations.VBlankLastsFromTick82182 : Prop :=
  ∀ (s : State) (n : Nat), s.ppu.dot = 0 → s.ppu.scanline = 0 → s.ppu.status.getLsbD 7 = false →
    s.ppu.nmiReq = false → n ≤ 89342 →
    (ppuTicks n s).ppu.status.getLsbD 7 = decide (82182 ≤ n ∧ n < 82182 + 6819) ∧
    (ppuTicks n s).ppu.nmiReq = (s.ppu.ctrl.getLsbD 7 && decide (82182 ≤ n)) ∧
    (n = 89342 → (ppuTicks n s).ppu.scanline = 0 ∧ (ppuTicks n s).ppu.dot = 0)

/-- Every step moves the PPU three dots a CPU cycle (rule R12), whatever it ran. -/
def Obligations.StepTicksThreeDotsPerCycle : Prop :=
  ∀ s t : State, s.ppu.dot ≤ 340 → s.ppu.scanline ≤ 261 → step s = .next t →
    t.ppu.framePosition = (s.ppu.framePosition + 3 * (t.cyc - s.cyc).toNat) % frameDots

/-- The end of a step (rule R372): an NMI request the ticks left is cleared and latched, over IRQ and under Reset; with
none the latch is as the CPU left it; nothing else is added to the ticks. -/
def Obligations.NmiRequestIsLatchedAtStepEnd : Prop :=
  ∀ before s t : State, t = ppuTicks (3 * (s.cyc - before.cyc).toNat) s →
    (t.ppu.nmiReq = false → afterCpu before s = t) ∧
    (t.ppu.nmiReq = true → afterCpu before s = { t with
      ppu := { t.ppu with nmiReq := false }
      irql := if t.irql = some .reset then some .reset else some .nmi })

/-! ## Flags and addresses -/

/-- `SetNZ(v)` sets Z to `v == 0` and N to `v[7]` and keeps the other six bits (rule R18); a flag update changes its own
bit alone (rule R34). -/
def Obligations.FlagUpdatesTouchTheirOwnBits : Prop :=
  (∀ (v p : Byte) (k : Nat), k < 8 →
    (setNZ v p).getLsbD k = if k = 1 then v == 0 else if k = 7 then v.getLsbD 7 else p.getLsbD k) ∧
  (∀ (p : Byte) (on : Bool) (k j : Nat), k < 8 → j < 8 →
    (setFlag ((1 : Byte) <<< j) on p).getLsbD k = if k = j then on else p.getLsbD k) ∧
  ([maskC, maskZ, maskI, maskD, maskB, maskU, maskV, maskN] : List Byte) =
    (List.range 8).map fun j => (1 : Byte) <<< j

/-- The adder's overflow test is two's-complement overflow (rule R257): V is set exactly when the signed sum with carry
lies outside -128 to 127. -/
def Obligations.OverflowIsSignedOverflow : Prop :=
  ∀ (m : Byte) (s : State), (s.addCore m).p.getLsbD 6 =
    decide (s.a.toInt + m.toInt + (if s.p.getLsbD 0 then 1 else 0) < -128 ∨
      127 < s.a.toInt + m.toInt + (if s.p.getLsbD 0 then 1 else 0))

/-- The resolver gives every data operand its effective address and changes nothing (rules R185 to R191): pointers come
from the zero page and wrap in it, index sums wrap at 16 bits in memory and at 8 in the zero page; a page is crossed
exactly when the page of the sum differs from the base's (rule R193). -/
def Obligations.ResolverGivesTheEffectiveAddress : Prop :=
  (∀ (pc0 : Word) (m : MemOperand) (s : State) (r : Resolved), dataAddress m s = some r →
    resolve pc0 m s = .ok r s) ∧
  (∀ (base : Word) (index : Byte), (indexed base index).ea.toNat = (base.toNat + index.toNat) % 65536 ∧
    ((indexed base index).crossed = true ↔ (indexed base index).ea.toNat / 256 ≠ base.toNat / 256)) ∧
  (∀ (s : State) (z : Byte), (s.zeroPagePointer z).toNat =
    (s.ram.read z.toNat).toNat + 256 * (s.ram.read ((z.toNat + 1) % 256)).toNat)

/-! ## Loads, stores and transfers -/

/-- LDA, LDX and LDY write the byte read to their register, with N and Z (rules R220 to R222); LAX writes it to A and X
with one read (rule R321). -/
def Obligations.LoadsWriteTheByteRead : Prop :=
  ReadInstr .lda [(0xA1, .indirectX, 6, false), (0xA5, .zeroPage, 3, false), (0xA9, .immediate, 2, false),
     (0xAD, .absolute, 4, false), (0xB1, .indirectY, 5, true), (0xB5, .zeroPageX, 4, false),
     (0xB9, .absoluteY, 4, true), (0xBD, .absoluteX, 4, true)]
    (fun v s => { s with a := v, p := setNZ v s.p }) ∧
  ReadInstr .ldx [(0xA2, .immediate, 2, false), (0xA6, .zeroPage, 3, false), (0xAE, .absolute, 4, false),
     (0xB6, .zeroPageY, 4, false), (0xBE, .absoluteY, 4, true)]
    (fun v s => { s with x := v, p := setNZ v s.p }) ∧
  ReadInstr .ldy [(0xA0, .immediate, 2, false), (0xA4, .zeroPage, 3, false), (0xAC, .absolute, 4, false),
     (0xB4, .zeroPageX, 4, false), (0xBC, .absoluteX, 4, true)]
    (fun v s => { s with y := v, p := setNZ v s.p }) ∧
  ReadInstr .lax [(0xA3, .indirectX, 6, false), (0xA7, .zeroPage, 3, false), (0xAF, .absolute, 4, false),
     (0xB3, .indirectY, 5, true), (0xB7, .zeroPageY, 4, false), (0xBF, .absoluteY, 4, true)]
    (fun v s => { s with a := v, x := v, p := setNZ v s.p })

/-- STA, STX and STY store their register, SAX stores `A & X`; no flag changes and their address is not read (rules R223
to R225, R322). -/
def Obligations.StoresWriteTheRegister : Prop :=
  StoreInstr .sta [(0x81, .indirectX, 6, false), (0x85, .zeroPage, 3, false), (0x8D, .absolute, 4, false),
     (0x91, .indirectY, 6, false), (0x95, .zeroPageX, 4, false), (0x99, .absoluteY, 5, false),
     (0x9D, .absoluteX, 5, false)]
    (fun s => s.a) ∧
  StoreInstr .stx [(0x86, .zeroPage, 3, false), (0x8E, .absolute, 4, false), (0x96, .zeroPageY, 4, false)] (fun s => s.x) ∧
  StoreInstr .sty [(0x84, .zeroPage, 3, false), (0x8C, .absolute, 4, false), (0x94, .zeroPageX, 4, false)] (fun s => s.y) ∧
  StoreInstr .sax [(0x83, .indirectX, 6, false), (0x87, .zeroPage, 3, false), (0x8F, .absolute, 4, false),
     (0x97, .zeroPageY, 4, false)]
    (fun s => s.a &&& s.x)

/-- The transfers (rules R226 to R231): each copies one register and sets N and Z, TXS alone sets no flag. -/
def Obligations.TransfersCopyARegister : Prop :=
  RegisterInstr .tax [(0xAA, .implied, 2, false)] (fun s => { s with x := s.a, p := setNZ s.a s.p }) ∧
  RegisterInstr .tay [(0xA8, .implied, 2, false)] (fun s => { s with y := s.a, p := setNZ s.a s.p }) ∧
  RegisterInstr .tsx [(0xBA, .implied, 2, false)] (fun s => { s with x := s.sp, p := setNZ s.sp s.p }) ∧
  RegisterInstr .txa [(0x8A, .implied, 2, false)] (fun s => { s with a := s.x, p := setNZ s.x s.p }) ∧
  RegisterInstr .txs [(0x9A, .implied, 2, false)] (fun s => { s with sp := s.x }) ∧
  RegisterInstr .tya [(0x98, .implied, 2, false)] (fun s => { s with a := s.y, p := setNZ s.y s.p })

/-! ## Arithmetic and logic -/

/-- ADC (rules R240, R241): A plus the operand plus carry modulo 256; C the carry out of 8 bits, V the sign-mismatch
test, N and Z of the result; D is not read. -/
def Obligations.AdcAddsWithCarry : Prop :=
  ReadInstr .adc [(0x61, .indirectX, 6, false), (0x65, .zeroPage, 3, false), (0x69, .immediate, 2, false),
     (0x6D, .absolute, 4, false), (0x71, .indirectY, 5, true), (0x75, .zeroPageX, 4, false),
     (0x79, .absoluteY, 4, true), (0x7D, .absoluteX, 4, true)]
    (fun m s =>
      let sum := s.a.toNat + m.toNat + (if s.p.getLsbD 0 then 1 else 0)
      let r := BitVec.ofNat 8 (sum % 256)
      { s with
        a := r,
        p := setNZ r (setFlag maskV (~~~(s.a ^^^ m) &&& (s.a ^^^ r) &&& 0x80 != 0)
          (setFlag maskC (decide (sum > 0xFF)) s.p)) })

/-- SBC (rules R242, R330): A minus the operand minus the borrow; C is set exactly when no borrow is needed, V is the
adder's test on the complemented operand.  The optional $EB is the same instruction. -/
def Obligations.SbcSubtractsWithBorrow : Prop :=
  ReadInstr .sbc [(0xE1, .indirectX, 6, false), (0xE5, .zeroPage, 3, false), (0xE9, .immediate, 2, false),
     (0xED, .absolute, 4, false), (0xF1, .indirectY, 5, true), (0xF5, .zeroPageX, 4, false),
     (0xF9, .absoluteY, 4, true), (0xFD, .absoluteX, 4, true), (0xEB, .immediate, 2, false)]
    (fun m s =>
      let borrow : Nat := if s.p.getLsbD 0 then 0 else 1
      let r := s.a - m - BitVec.ofNat 8 borrow
      { s with
        a := r,
        p := setNZ r (setFlag maskV (~~~(s.a ^^^ (m ^^^ 0xFF)) &&& (s.a ^^^ r) &&& 0x80 != 0)
          (setFlag maskC (decide (m.toNat + borrow ≤ s.a.toNat)) s.p)) })

/-- AND, ORA and EOR (rules R243 to R245) combine A with the operand and set N and Z of the result; BIT (rule R246)
sets Z of `A & m`, N and V from the operand's bits 7 and 6, and does not write A. -/
def Obligations.LogicCombinesAAndBitTests : Prop :=
  ReadInstr .and [(0x21, .indirectX, 6, false), (0x25, .zeroPage, 3, false), (0x29, .immediate, 2, false),
     (0x2D, .absolute, 4, false), (0x31, .indirectY, 5, true), (0x35, .zeroPageX, 4, false),
     (0x39, .absoluteY, 4, true), (0x3D, .absoluteX, 4, true)]
    (fun m s => { s with a := s.a &&& m, p := setNZ (s.a &&& m) s.p }) ∧
  ReadInstr .ora [(0x01, .indirectX, 6, false), (0x05, .zeroPage, 3, false), (0x09, .immediate, 2, false),
     (0x0D, .absolute, 4, false), (0x11, .indirectY, 5, true), (0x15, .zeroPageX, 4, false),
     (0x19, .absoluteY, 4, true), (0x1D, .absoluteX, 4, true)]
    (fun m s => { s with a := s.a ||| m, p := setNZ (s.a ||| m) s.p }) ∧
  ReadInstr .eor [(0x41, .indirectX, 6, false), (0x45, .zeroPage, 3, false), (0x49, .immediate, 2, false),
     (0x4D, .absolute, 4, false), (0x51, .indirectY, 5, true), (0x55, .zeroPageX, 4, false),
     (0x59, .absoluteY, 4, true), (0x5D, .absoluteX, 4, true)]
    (fun m s => { s with a := s.a ^^^ m, p := setNZ (s.a ^^^ m) s.p }) ∧
  ReadInstr .bit [(0x24, .zeroPage, 3, false), (0x2C, .absolute, 4, false)]
    (fun m s => { s with
      p := setFlag maskV (m.getLsbD 6) (setFlag maskN (m.getLsbD 7) (setFlag maskZ (s.a &&& m == 0) s.p)) })

/-- CMP, CPX and CPY (rules R247 to R250): C when the register is not below the operand, Z when equal, N of the
difference; V and the registers are kept. -/
def Obligations.ComparesSetCZN : Prop :=
  ReadInstr .cmp [(0xC1, .indirectX, 6, false), (0xC5, .zeroPage, 3, false), (0xC9, .immediate, 2, false),
     (0xCD, .absolute, 4, false), (0xD1, .indirectY, 5, true), (0xD5, .zeroPageX, 4, false),
     (0xD9, .absoluteY, 4, true), (0xDD, .absoluteX, 4, true)]
    (fun m s => { s with
      p := setNZ (s.a - m) (setFlag maskC (decide (m.toNat ≤ s.a.toNat)) s.p) }) ∧
  ReadInstr .cpx [(0xE0, .immediate, 2, false), (0xE4, .zeroPage, 3, false), (0xEC, .absolute, 4, false)]
    (fun m s => { s with p := setNZ (s.x - m) (setFlag maskC (decide (m.toNat ≤ s.x.toNat)) s.p) }) ∧
  ReadInstr .cpy [(0xC0, .immediate, 2, false), (0xC4, .zeroPage, 3, false), (0xCC, .absolute, 4, false)]
    (fun m s => { s with p := setNZ (s.y - m) (setFlag maskC (decide (m.toNat ≤ s.y.toNat)) s.p) })

/-- INC and DEC (rules R251, R252): one read, then one write of the byte plus or minus 1, then N and Z; C is kept. -/
def Obligations.IncAndDecModifyMemory : Prop :=
  RmwInstr .inc [(0xE6, .zeroPage, 5, false), (0xEE, .absolute, 6, false), (0xF6, .zeroPageX, 6, false),
     (0xFE, .absoluteX, 7, false)]
    (fun m _ => m + 1) (fun _ s => s) (fun r s => { s with p := setNZ r s.p }) ∧
  RmwInstr .dec [(0xC6, .zeroPage, 5, false), (0xCE, .absolute, 6, false), (0xD6, .zeroPageX, 6, false),
     (0xDE, .absoluteX, 7, false)]
    (fun m _ => m - 1) (fun _ s => s) (fun r s => { s with p := setNZ r s.p })

/-- INX, INY, DEX and DEY (rules R253 to R256). -/
def Obligations.IndexRegistersStepByOne : Prop :=
  RegisterInstr .inx [(0xE8, .implied, 2, false)] (fun s => { s with x := s.x + 1, p := setNZ (s.x + 1) s.p }) ∧
  RegisterInstr .iny [(0xC8, .implied, 2, false)] (fun s => { s with y := s.y + 1, p := setNZ (s.y + 1) s.p }) ∧
  RegisterInstr .dex [(0xCA, .implied, 2, false)] (fun s => { s with x := s.x - 1, p := setNZ (s.x - 1) s.p }) ∧
  RegisterInstr .dey [(0x88, .implied, 2, false)] (fun s => { s with y := s.y - 1, p := setNZ (s.y - 1) s.p })

/-! ## Shifts and rotates -/

/-- ASL, LSR, ROL and ROR on the accumulator or memory (rules R270 to R274): C is the bit shifted off, written before
the result; ROL and ROR shift the old C in; N and Z are the result's. -/
def Obligations.ShiftsMoveThroughCarry : Prop :=
  RmwInstr .asl [(0x06, .zeroPage, 5, false), (0x0A, .accumulator, 2, false), (0x0E, .absolute, 6, false),
     (0x16, .zeroPageX, 6, false), (0x1E, .absoluteX, 7, false)]
    (fun m _ => m <<< 1) (fun m s => { s with p := setFlag maskC (m.getLsbD 7) s.p })
    (fun r s => { s with p := setNZ r s.p }) ∧
  RmwInstr .lsr [(0x46, .zeroPage, 5, false), (0x4A, .accumulator, 2, false), (0x4E, .absolute, 6, false),
     (0x56, .zeroPageX, 6, false), (0x5E, .absoluteX, 7, false)]
    (fun m _ => m >>> 1) (fun m s => { s with p := setFlag maskC (m.getLsbD 0) s.p })
    (fun r s => { s with p := setNZ r s.p }) ∧
  RmwInstr .rol [(0x26, .zeroPage, 5, false), (0x2A, .accumulator, 2, false), (0x2E, .absolute, 6, false),
     (0x36, .zeroPageX, 6, false), (0x3E, .absoluteX, 7, false)]
    (fun m s => m <<< 1 ||| (if s.p.getLsbD 0 then 0x01 else 0))
    (fun m s => { s with p := setFlag maskC (m.getLsbD 7) s.p }) (fun r s => { s with p := setNZ r s.p }) ∧
  RmwInstr .ror [(0x66, .zeroPage, 5, false), (0x6A, .accumulator, 2, false), (0x6E, .absolute, 6, false),
     (0x76, .zeroPageX, 6, false), (0x7E, .absoluteX, 7, false)]
    (fun m s => m >>> 1 ||| (if s.p.getLsbD 0 then 0x80 else 0))
    (fun m s => { s with p := setFlag maskC (m.getLsbD 0) s.p }) (fun r s => { s with p := setNZ r s.p })

/-! ## Control flow -/

/-- The eight branches (rules R280 to R288): each on one flag and sense, to the next instruction's address plus the
signed offset; 2, 3 or 4 cycles; nothing but PC and CYC changes. -/
def Obligations.BranchesTestOneFlag : Prop :=
  BranchInstr .bcc 0x90 0 false ∧ BranchInstr .bcs 0xB0 0 true ∧ BranchInstr .beq 0xF0 1 true ∧
  BranchInstr .bne 0xD0 1 false ∧ BranchInstr .bmi 0x30 7 true ∧ BranchInstr .bpl 0x10 7 false ∧
  BranchInstr .bvc 0x50 6 false ∧ BranchInstr .bvs 0x70 6 true

/-- JMP (rules R189, R289): absolute loads PC with its operand; indirect reads the target's low byte at the pointer and
its high byte at the next address of the pointer's own page, and faults where the pointer is unmapped. -/
def Obligations.JmpLoadsPc : Prop :=
  HasRows .jmp [(0x4C, .absolute, 3, false), (0x6C, .indirect, 5, false)] ∧
  (∀ (addr : Word) (s : State), exec (.jmpAbs addr) s = .next { s with pc := addr, cyc := s.cyc + 3 }) ∧
  (∀ (ptr : Word) (lo hi : Byte) (s s1 s2 : State), memRead (s.pc - 3) ptr s = .ok lo s1 →
    memRead (s.pc - 3) (ptr.extractLsb' 8 8 ++ (ptr.extractLsb' 0 8 + 1)) s1 = .ok hi s2 →
    exec (.jmpInd ptr) s = .next { s2 with pc := hi ++ lo, cyc := s2.cyc + 5 }) ∧
  (∀ (ptr : Word) (s : State), 0x4000 ≤ ptr.toNat → ptr.toNat < 0x8000 →
    exec (.jmpInd ptr) s = accessFault (.jmpInd ptr) .read ptr s s)

/-- JSR pushes the address of its last byte, high byte first, and jumps; RTS pulls an address, low byte first, and goes
on behind it (rules R290, R291). -/
def Obligations.JsrPushesAndRtsPulls : Prop :=
  HasRows .jsr [(0x20, .absolute, 6, false)] ∧ HasRows .rts [(0x60, .implied, 6, false)] ∧
  (∀ (addr : Word) (s : State), exec (.jsr addr) s = .next
    { (s.pushed ((s.pc - 1).extractLsb' 8 8)).pushed ((s.pc - 1).extractLsb' 0 8) with
      pc := addr, cyc := s.cyc + 6 }) ∧
  (∀ s : State, exec .rts s = .next
    { s with pc := (s.stackByte 2 ++ s.stackByte 1) + 1, sp := s.sp + 2, cyc := s.cyc + 6 })

/-- BRK (rule R292) pushes its address plus 2 and P with bits 4 and 5 set, sets I and loads PC from $FFFE, whatever I
was; 7 cycles.  RTI (rule R293) pulls P with bit 4 cleared and bit 5 set, then PC low and high with no adjustment; 6
cycles. -/
def Obligations.BrkEntersAndRtiReturns : Prop :=
  HasRows .brk [(0x00, .implied, 7, false)] ∧ HasRows .rti [(0x40, .implied, 6, false)] ∧
  (∀ (s : State) (w : Word), s.vector 0xFFFE = some w → exec .brk s = .next
    { ((s.pushed ((s.pc + 1).extractLsb' 8 8)).pushed ((s.pc + 1).extractLsb' 0 8)).pushed (s.p ||| 0x30) with
      p := setFlag maskI true s.p, pc := w, cyc := s.cyc + 7 }) ∧
  ∀ s : State, exec .rti s = .next
    { s with
      p := (s.stackByte 1 &&& 0xCF) ||| 0x20, pc := s.stackByte 3 ++ s.stackByte 2, sp := s.sp + 3, cyc := s.cyc + 6 }

/-- NOP and the undocumented NOPs (rules R294, R329): nothing but CYC changes, the operand's address is not accessed; the
absolute,X form costs one cycle more on a page cross. -/
def Obligations.NopsChangeNothingButCyc : Prop :=
  HasRows .nop [(0xEA, .implied, 2, false), (0x04, .zeroPage, 3, false), (0x0C, .absolute, 4, false),
     (0x14, .zeroPageX, 4, false), (0x1A, .implied, 2, false), (0x1C, .absoluteX, 4, true),
     (0x34, .zeroPageX, 4, false), (0x3A, .implied, 2, false), (0x3C, .absoluteX, 4, true),
     (0x44, .zeroPage, 3, false), (0x54, .zeroPageX, 4, false), (0x5A, .implied, 2, false),
     (0x5C, .absoluteX, 4, true), (0x64, .zeroPage, 3, false), (0x74, .zeroPageX, 4, false),
     (0x7A, .implied, 2, false), (0x7C, .absoluteX, 4, true), (0x80, .immediate, 2, false),
     (0x82, .immediate, 2, false), (0x89, .immediate, 2, false), (0xC2, .immediate, 2, false),
     (0xD4, .zeroPageX, 4, false), (0xDA, .implied, 2, false), (0xDC, .absoluteX, 4, true),
     (0xE2, .immediate, 2, false), (0xF4, .zeroPageX, 4, false), (0xFA, .implied, 2, false),
     (0xFC, .absoluteX, 4, true)] ∧
  ∀ (i : Instr) (s : State), i.mnemonic = .nop →
    (i.operand.mode = .implied ∨ i.operand.mode = .immediate → exec i s = .next { s with cyc := s.cyc + 2 }) ∧
    (∀ r, operandAddress i s = some r → exec i s = .next (charge i r.crossed 0 s))

/-! ## Stack and flags -/

/-- PHA, PHP, PLA and PLP (rules R300 to R303): PHP pushes P with bits 4 and 5 set, PLA sets N and Z, PLP loads P with
bit 4 clear and bit 5 set. -/
def Obligations.PushesAndPulls : Prop :=
  HasRows .pha [(0x48, .implied, 3, false)] ∧ HasRows .php [(0x08, .implied, 3, false)] ∧ HasRows .pla [(0x68, .implied, 4, false)] ∧ HasRows .plp [(0x28, .implied, 4, false)] ∧
  ∀ s : State,
    exec .pha s = .next { s.pushed s.a with cyc := s.cyc + 3 } ∧
    exec .php s = .next { s.pushed (s.p ||| 0x30) with cyc := s.cyc + 3 } ∧
    exec .pla s = .next
      { s with a := s.stackByte 1, p := setNZ (s.stackByte 1) s.p, sp := s.sp + 1, cyc := s.cyc + 4 } ∧
    exec .plp s = .next { s with p := (s.stackByte 1 &&& 0xCF) ||| 0x20, sp := s.sp + 1, cyc := s.cyc + 4 }

/-- The seven flag instructions (rules R304 to R310) set or clear their own bit of P. -/
def Obligations.FlagInstructionsSetOneBit : Prop :=
  RegisterInstr .clc [(0x18, .implied, 2, false)] (fun s => { s with p := s.p &&& 0xFE }) ∧
  RegisterInstr .sec [(0x38, .implied, 2, false)] (fun s => { s with p := s.p ||| 0x01 }) ∧
  RegisterInstr .cli [(0x58, .implied, 2, false)] (fun s => { s with p := s.p &&& 0xFB }) ∧
  RegisterInstr .sei [(0x78, .implied, 2, false)] (fun s => { s with p := s.p ||| 0x04 }) ∧
  RegisterInstr .cld [(0xD8, .implied, 2, false)] (fun s => { s with p := s.p &&& 0xF7 }) ∧
  RegisterInstr .sed [(0xF8, .implied, 2, false)] (fun s => { s with p := s.p ||| 0x08 }) ∧
  RegisterInstr .clv [(0xB8, .implied, 2, false)] (fun s => { s with p := s.p &&& 0xBF })

/-- Pulls undo pushes (rules R290 to R293, R300, R302): PLA after PHA restores A and S, RTS after JSR goes on behind the
JSR with S restored, RTI after BRK restores P's flags and S and goes on behind BRK's padding byte. -/
def Obligations.StackRoundTrips : Prop :=
  ∀ s : State, s.ram.wf 0x800 = true →
    (∃ t u, exec .pha s = .next t ∧ exec .pla t = .next u ∧ u.a = s.a ∧ u.sp = s.sp) ∧
    (∀ addr, ∃ t u, exec (.jsr addr) s = .next t ∧ exec .rts t = .next u ∧ u.pc = s.pc ∧ u.sp = s.sp) ∧
    (s.cart.isSome = true → ∃ t u, exec .brk s = .next t ∧ exec .rti t = .next u ∧ u.pc = s.pc + 1 ∧ u.sp = s.sp ∧
      u.p = (s.p &&& 0xCF) ||| 0x20)

/-! ## Undocumented read-modify-write families -/

/-- DCP, ISC, SLO, RLA, SRE and RRA (rules R320, R323 to R328): the first primitive on memory, then the second on the
byte it wrote, with one read and one write. -/
def Obligations.CombinedOpcodesRunTwoPrimitives : Prop :=
  RmwInstr .dcp [(0xC3, .indirectX, 8, false), (0xC7, .zeroPage, 5, false), (0xCF, .absolute, 6, false),
     (0xD3, .indirectY, 8, false), (0xD7, .zeroPageX, 6, false), (0xDB, .absoluteY, 7, false),
     (0xDF, .absoluteX, 7, false)]
    (fun m _ => m - 1) (fun _ s => s)
    (fun r s => { s with p := setNZ (s.a - r) (setFlag maskC (decide (r.toNat ≤ s.a.toNat)) s.p) }) ∧
  RmwInstr .isc [(0xE3, .indirectX, 8, false), (0xE7, .zeroPage, 5, false), (0xEF, .absolute, 6, false),
     (0xF3, .indirectY, 8, false), (0xF7, .zeroPageX, 6, false), (0xFB, .absoluteY, 7, false),
     (0xFF, .absoluteX, 7, false)]
    (fun m _ => m + 1) (fun _ s => s) (fun r s => s.addCore (r ^^^ 0xFF)) ∧
  RmwInstr .slo [(0x03, .indirectX, 8, false), (0x07, .zeroPage, 5, false), (0x0F, .absolute, 6, false),
     (0x13, .indirectY, 8, false), (0x17, .zeroPageX, 6, false), (0x1B, .absoluteY, 7, false),
     (0x1F, .absoluteX, 7, false)]
    (fun m _ => m <<< 1) (fun m s => { s with p := setFlag maskC (m.getLsbD 7) s.p })
    (fun r s => { s with a := s.a ||| r, p := setNZ (s.a ||| r) s.p }) ∧
  RmwInstr .rla [(0x23, .indirectX, 8, false), (0x27, .zeroPage, 5, false), (0x2F, .absolute, 6, false),
     (0x33, .indirectY, 8, false), (0x37, .zeroPageX, 6, false), (0x3B, .absoluteY, 7, false),
     (0x3F, .absoluteX, 7, false)]
    (fun m s => m <<< 1 ||| (if s.p.getLsbD 0 then 0x01 else 0))
    (fun m s => { s with p := setFlag maskC (m.getLsbD 7) s.p })
    (fun r s => { s with a := s.a &&& r, p := setNZ (s.a &&& r) s.p }) ∧
  RmwInstr .sre [(0x43, .indirectX, 8, false), (0x47, .zeroPage, 5, false), (0x4F, .absolute, 6, false),
     (0x53, .indirectY, 8, false), (0x57, .zeroPageX, 6, false), (0x5B, .absoluteY, 7, false),
     (0x5F, .absoluteX, 7, false)]
    (fun m _ => m >>> 1) (fun m s => { s with p := setFlag maskC (m.getLsbD 0) s.p })
    (fun r s => { s with a := s.a ^^^ r, p := setNZ (s.a ^^^ r) s.p }) ∧
  RmwInstr .rra [(0x63, .indirectX, 8, false), (0x67, .zeroPage, 5, false), (0x6F, .absolute, 6, false),
     (0x73, .indirectY, 8, false), (0x77, .zeroPageX, 6, false), (0x7B, .absoluteY, 7, false),
     (0x7F, .absoluteX, 7, false)]
    (fun m s => m >>> 1 ||| (if s.p.getLsbD 0 then 0x80 else 0))
    (fun m s => { s with p := setFlag maskC (m.getLsbD 0) s.p }) (fun r s => s.addCore r)

/-! ## Frames over all instructions -/

/-- A, X and Y change only by the instructions rule R30 names for each, a shift's A only in accumulator mode, and S only
by TXS and the pushes and pulls (rule R31); interrupt service changes none of A, X and Y. -/
def Obligations.RegistersChangeOnlyByTheirWriters : Prop :=
  (∀ (i : Instr) (s t : State), exec i s = .next t →
    (i.mnemonic ∉ writesA ∨ (i.mnemonic ∈ [Mnemonic.asl, .lsr, .rol, .ror] ∧ i.operand ≠ .accumulator) → t.a = s.a) ∧
    (i.mnemonic ∉ writesX → t.x = s.x) ∧ (i.mnemonic ∉ writesY → t.y = s.y) ∧
    (i.mnemonic ∉ writesS → t.sp = s.sp)) ∧
  (∀ (kind : Interrupt) (s t : State), service kind s = .ok () t → t.a = s.a ∧ t.x = s.x ∧ t.y = s.y ∧ t.sp = s.sp - 3)

/-- Each flag changes only by the instructions rule R37 names for it; B and U keep their values 0 and 1. -/
def Obligations.FlagsChangeOnlyByTheirWriters : Prop :=
  ∀ (i : Instr) (s t : State), exec i s = .next t →
    (i.mnemonic ∉ writesC → t.p.getLsbD 0 = s.p.getLsbD 0) ∧
    (i.mnemonic ∉ writesNZ → t.p.getLsbD 1 = s.p.getLsbD 1 ∧ t.p.getLsbD 7 = s.p.getLsbD 7) ∧
    (i.mnemonic ∉ writesI → t.p.getLsbD 2 = s.p.getLsbD 2) ∧
    (i.mnemonic ∉ writesD → t.p.getLsbD 3 = s.p.getLsbD 3) ∧
    (i.mnemonic ∉ writesV → t.p.getLsbD 6 = s.p.getLsbD 6) ∧
    (s.p &&& 0x30 = 0x20 → t.p &&& 0x30 = 0x20)

/-- Instructions other than the storing ones keep every byte of every memory (rule R196); every instruction keeps the
latch, the fault record and the parameters, and PC stays at the following instruction except for control flow. -/
def Obligations.OnlyStoresChangeMemory : Prop :=
  ∀ (i : Instr) (s t : State), exec i s = .next t →
    (i.mnemonic ∉ writesMemory ∨ i.operand = .accumulator → SameMemory s t) ∧
    (i.mnemonic ∉ writesPc → t.pc = s.pc) ∧
    t.irql = s.irql ∧ t.fault = s.fault ∧ t.params = s.params

/-- What a store changes (rules R84, R223 to R225, R196): to RAM, the byte of its address and nothing of any other
memory or of the PPU; to a PPU port, no byte of RAM.  A push changes the stack slots it fills (rule R33). -/
def Obligations.StoresChangeOnlyTheirBytes : Prop :=
  (∀ (i : Instr) (s t : State) (r : Resolved), i.mnemonic ∈ writesMemory → operandAddress i s = some r →
    i.mnemonic ≠ .jsr → exec i s = .next t → s.ram.wf 0x800 = true →
    (r.ea.toNat < 0x2000 → t.ppu = s.ppu ∧ t.cart = s.cart ∧
      ∀ k, k ≠ r.ea.toNat % 0x800 → t.ram.read k = s.ram.read k) ∧
    (0x2000 ≤ r.ea.toNat → t.ram = s.ram)) ∧
  (∀ (i : Instr) (s t : State) (n : Nat),
    (i.mnemonic, n) ∈ [(Mnemonic.pha, 1), (.php, 1), (.jsr, 2), (.brk, 3)] → exec i s = .next t →
    s.ram.wf 0x800 = true → t.ppu = s.ppu ∧ t.cart = s.cart ∧ t.sp = s.sp - BitVec.ofNat 8 n ∧
      ∀ k, (∀ j, j < n → k ≠ 0x100 + (s.sp - BitVec.ofNat 8 j).toNat) → t.ram.read k = s.ram.read k)

/-- The D flag takes no part in anything but its own instructions and the pushed and pulled copies (rule R36): the same
instruction on a state that differs in D alone answers a state that differs in D alone. -/
def Obligations.DecimalFlagAffectsNothingElse : Prop :=
  ∀ (i : Instr) (s t : State) (d : Bool), i.mnemonic ∉ [Mnemonic.sed, .cld, .plp, .rti, .php, .brk] →
    exec i s = .next t → exec i (s.setFlag maskD d) = .next (t.setFlag maskD d)

/-- The cycles of an instruction (rules R194, R280, R404): its base cycles, and one more exactly where its row adds one
on a page cross and its effective address crosses a page; those rows are the read-only forms rule R194 lists.  A branch
costs 2 cycles not taken, 3 taken within the page of the next instruction, 4 taken across it.  The charge of the other
statements is that sum. -/
def Obligations.CyclesAreBasePlusPenalty : Prop :=
  (∀ (i : Instr) (s t : State), exec i s = .next t → i.operand.mode ≠ .relative →
    t.cyc = s.cyc + BitVec.ofNat 64
      (i.entry.baseCycles + if i.entry.pageCrossAddsCycle = true ∧ operandCrosses i s = true then 1 else 0)) ∧
  (∀ i : Instr, i.entry.pageCrossAddsCycle = true ↔ (i.mnemonic, i.operand.mode) ∈ pageCrossForms) ∧
  (∀ (i : Instr) (s t : State) (bit : Nat) (want : Bool) (off : Int), exec i s = .next t →
    (i.mnemonic, bit, want) ∈ branchTests → i.operand = .relative off →
    t.cyc = s.cyc +
      if s.p.getLsbD bit ≠ want then 2
      else if s.pc.extractLsb' 8 8 = (s.pc + BitVec.ofInt 16 off).extractLsb' 8 8 then 3 else 4) ∧
  (∀ (i : Instr) (crossed : Bool) (s : State), charge i crossed 0 s =
    { s with
      cyc := s.cyc + BitVec.ofNat 64
        (i.entry.baseCycles + if i.entry.pageCrossAddsCycle = true ∧ crossed = true then 1 else 0) })

/-! ## Invariants of the machine -/

/-- The reset state, and every power-up of well-formed parameters and cartridge, meets the invariant (rules R35, R44,
R48, R390). -/
def Obligations.PowerUpMeetsTheInvariant : Prop :=
  State.reset.Inv ∧
  ∀ (params : Params) (c : Cartridge), c.wf → Memory.wf 0x800 params.ramInit = true →
    Memory.wf 0x800 params.vramInit = true → Memory.wf 0x100 params.oamInit = true →
    Memory.wf 0x20 params.palInit = true → (State.powerUp params (some c)).Inv

/-- Every step keeps the invariant: P's bits 5 and 4, the PPU's status bits 4 to 0, its counters in range, no NMI request
left, every memory in canonical form and within its size (rules R35, R44, R45, R48 to R52, R372). -/
def Obligations.EveryStepKeepsTheInvariant : Prop :=
  ∀ s t : State, s.Inv → step s = .next t → t.Inv

/-- P's bit 5 is 1 and bit 4 is 0 at all times (rule R35): at power-up, and after every step from such a state; BRK and
PHP set bit 4 only in the byte they push. -/
def Obligations.BreakAndUnusedBitsNeverChange : Prop :=
  (∀ params cart, (State.powerUp params cart).p &&& 0x30 = 0x20) ∧
  (∀ s t : State, s.p &&& 0x30 = 0x20 → step s = .next t → t.p &&& 0x30 = 0x20) ∧
  (∀ s t : State, (exec .php s = .next t ∨ exec .brk s = .next t) → s.p &&& 0x30 = 0x20 → s.ram.wf 0x800 = true →
    t.p &&& 0x30 = 0x20 ∧ (t.stackByte 1).getLsbD 4 = true ∧ (t.stackByte 1).getLsbD 5 = true)

/-- What no step changes (rules R52, R54): the parameters, PRG, its size, the mirroring, the kind and length of CHR, and
CHR itself where it is ROM. -/
def Obligations.NoStepChangesRomOrParameters : Prop :=
  ∀ s t : State, step s = .next t → ∃ c d, s.cart = some c ∧ t.cart = some d ∧ t.params = s.params ∧
    d.prg = c.prg ∧ d.prgSize = c.prgSize ∧ d.mirroring = c.mirroring ∧ d.chrIsRam = c.chrIsRam ∧
    d.chrLen = c.chrLen ∧ (c.chrIsRam = false → d.chr = c.chr)

/-- How a step can stop (rules R41, R340 to R342, R344, R372): a machine that runs answers a next state, a DecodeFault or
a BusFault, never a refusal; the fault names the PC its step began at and leaves `FAULT` holding the record.  A machine
whose `FAULT` is set is stuck with that record, in the form log entry 2 gives it, whether a cartridge is inserted or
not; one with no fault and no cartridge refuses the step (decision D41). -/
def Obligations.StepStopsOnlyWithItsFaults : Prop :=
  (∀ s : State, s.running = true →
    (∃ t, step s = .next t ∧ t.running = true) ∨
    (∃ opcode left, step s = .fault (.decodeFault opcode s.pc left) ∧ left.fault = some (.decode opcode s.pc)) ∨
    (∃ kind addr left, step s = .fault (.busFault kind addr s.pc left) ∧
      left.fault = some (.bus kind addr s.pc))) ∧
  (∀ (s : State) (r : FaultRecord), s.fault = some r → step s = .fault (.stopped r)) ∧
  (∀ s : State, s.fault = none → s.cart = none → step s = .refused .noCartridge)

/-! ## The cartridge -/

/-- `insert_cartridge` (rules R130, R134, R343): an image is accepted exactly when its length covers the header and what
it declares, the magic is right, PRG is one or two units, the four-screen bit is clear and the mapper is 0; an accepted
image's cartridge is well formed and holds its slices; after a refusal the console keeps no cartridge. -/
def Obligations.AcceptedImagesAreSliced : Prop :=
  ∀ (bytes : List Byte) (s : State), s.cyc = 0 → s.fault = none →
    let byte := fun k => bytes.getD k 0
    let start := 16 + (if (byte 6).getLsbD 2 then 512 else 0)
    let np := (byte 4).toNat
    let nc := (byte 5).toNat
    ((16 ≤ bytes.length ∧ bytes.take 4 = [0x4E, 0x45, 0x53, 0x1A] ∧ (np = 1 ∨ np = 2) ∧
        (byte 6).getLsbD 3 = false ∧ (byte 7 &&& 0xF0) ||| (byte 6 >>> 4) = 0 ∧
        start + 16384 * np + 8192 * nc ≤ bytes.length) →
      ∃ c, insertCartridge bytes s = .done { s with cart := some c } ∧ c.wf ∧
        c.prgSize.bytes = 16384 * np ∧ (c.chrIsRam = true ↔ nc = 0) ∧ c.chrLen = (if nc = 0 then 8192 else 8192 * nc) ∧
        (c.mirroring = .vertical ↔ (byte 6).getLsbD 0 = true) ∧
        (∀ k, k < 16384 * np → c.prg.read k = byte (start + k)) ∧
        (∀ k, k < 8192 * nc → c.chr.read k = byte (start + 16384 * np + k)) ∧ (nc = 0 → c.chr = [])) ∧
    (¬ (16 ≤ bytes.length ∧ bytes.take 4 = [0x4E, 0x45, 0x53, 0x1A] ∧ (np = 1 ∨ np = 2) ∧
        (byte 6).getLsbD 3 = false ∧ (byte 7 &&& 0xF0) ||| (byte 6 >>> 4) = 0 ∧
        start + 16384 * np + 8192 * nc ≤ bytes.length) →
      ∃ reason, insertCartridge bytes s = .rejected (.parse reason) { s with cart := none })
end

