-- ==== Sys2Proof/Laws/Decode.lean ====
section
/-! SUPPORT. The opcode map and the encoder: byte order, the row of every instruction, and when a mnemonic has exactly
the rows of a list. -/

namespace Sys2Proof

/-- A word is its two bytes (00_scope.md rule R16). -/
theorem wordOf_bytes (w : Word) : wordOf (lowByte w) (highByte w) = w := by
  unfold wordOf lowByte highByte
  ext k hk
  simp only [BitVec.getElem_or, BitVec.getElem_shiftLeft, BitVec.getElem_setWidth]
  by_cases h : k < 8 <;> simp [h, BitVec.getLsbD_setWidth]
  · rw [BitVec.getLsbD_eq_getElem hk]
  · have h1 : k - 8 < 8 := by omega
    have h2 : 8 + (k - 8) = k := by omega
    have h3 : w.getLsbD k = w[k] := BitVec.getLsbD_eq_getElem hk
    simp [h1, h2, h3]

/-- The low byte of a word made of two bytes. -/
theorem lowByte_wordOf (lo hi : Byte) : lowByte (wordOf lo hi) = lo := by
  unfold wordOf lowByte
  ext k hk
  simp

/-- The high byte of a word made of two bytes. -/
theorem highByte_wordOf (lo hi : Byte) : highByte (wordOf lo hi) = hi := by
  unfold wordOf highByte
  ext k hk
  have h1 : 8 + k < 16 := by omega
  have h2 : ¬ (8 + k < 8) := by omega
  simp [h1]
  rw [BitVec.getLsbD_eq_getElem hk]

/-- A signed byte of an offset in range is the offset (30_encoding.md rule R152). -/
theorem toInt_ofInt_offset {off : Int} (h : -128 ≤ off) (h' : off ≤ 127) : (BitVec.ofInt 8 off).toInt = off := by
  rw [BitVec.toInt_ofInt, Int.bmod_eq_of_le] <;> omega

namespace Machine

/-- The mnemonic and row a slot of the opcode map stands for. -/
def slotRow (slot : Slot) : Mnemonic × MapRow :=
  match slot.form with
  | .implied i => (i.mnemonic, mapRow i)
  | .immediate f => ((f 0).mnemonic, mapRow (f 0))
  | .unread f => ((f 0).mnemonic, mapRow (f 0))
  | .byte f => ((f 0).mnemonic, mapRow (f 0))
  | .relative f => ((f 0).mnemonic, mapRow (f 0))
  | .word f => ((f 0).mnemonic, mapRow (f 0))

/-- The slot of an instruction stands in the map at its constructor's place. -/
theorem opcodeMap_slot (i : Instr) :
    ∃ slot, opcodeMap[i.ctorIdx]? = some slot ∧ slot.opcode = i.opcode ∧ slotRow slot = (i.mnemonic, mapRow i) := by
  cases i <;> exact ⟨_, rfl, rfl, rfl⟩

theorem mem_opcodeMap (i : Instr) : ∃ slot ∈ opcodeMap, slotRow slot = (i.mnemonic, mapRow i) := by
  obtain ⟨slot, h, -, k⟩ := opcodeMap_slot i
  exact ⟨slot, List.mem_of_getElem? h, k⟩

/-- A mnemonic has exactly the rows of a list if the map says so slot by slot. -/
theorem hasRows_of {m : Mnemonic} {rows : List MapRow}
    (h : opcodeMap.all (fun slot => decide ((slotRow slot).1 = m) == decide ((slotRow slot).2 ∈ rows)) = true) :
    HasRows m rows := by
  intro i
  obtain ⟨slot, hs, k⟩ := mem_opcodeMap i
  have := List.all_eq_true.mp h slot hs
  rw [k] at this
  simpa using this

end Machine

end Sys2Proof
end

