-- ==== Sys2Proof/Laws/Memory.lean ====
section
/-! SUPPORT. The byte memories: a read after a write, and the canonical form every operation keeps. -/

namespace Sys2Proof.Machine

@[simp] theorem Memory.read_nil (k : Nat) : Memory.read [] k = unlistedByte := rfl

theorem Memory.read_cell (k j : Nat) (v : Byte) :
    (Memory.cell k v).read j = if j = k then v else unlistedByte := by
  unfold Memory.cell
  by_cases hv : v = unlistedByte
  · simp [hv]
  · simp [hv, Memory.read, eq_comm]

/-- A read of cells in front of a memory. -/
theorem Memory.read_cell_append (k j : Nat) (v : Byte) (m : Memory) (h : m.read k = unlistedByte) :
    (Memory.cell k v ++ m : Memory).read j = if j = k then v else m.read j := by
  unfold Memory.cell
  by_cases hv : v = unlistedByte
  · by_cases hj : j = k
    · simp [hv, hj, h]
    · simp [hv, hj]
  · simp [hv, Memory.read, eq_comm]

/-- Below every listed address a memory reads as unlisted. -/
theorem Memory.read_of_wfFrom_lt {size lo k : Nat} {m : Memory} (h : m.wfFrom size lo = true) (hk : k < lo) :
    m.read k = unlistedByte := by
  induction m generalizing lo with
  | nil => rfl
  | cons c rest ih =>
    obtain ⟨a, b⟩ := c
    simp only [Memory.wfFrom, Bool.and_eq_true, decide_eq_true_eq] at h
    have hne : a ≠ k := by omega
    simp only [Memory.read, hne, if_false]
    exact ih h.2 (by omega)

/-- From its size on a memory reads as unlisted. -/
theorem Memory.read_of_wfFrom_ge {size lo k : Nat} {m : Memory} (h : m.wfFrom size lo = true) (hk : size ≤ k) :
    m.read k = unlistedByte := by
  induction m generalizing lo with
  | nil => rfl
  | cons c rest ih =>
    obtain ⟨a, b⟩ := c
    simp only [Memory.wfFrom, Bool.and_eq_true, decide_eq_true_eq] at h
    have hne : a ≠ k := by omega
    simp only [Memory.read, hne, if_false]
    exact ih h.2

/-- A lower bound on the listed addresses may be lowered. -/
theorem Memory.wfFrom_mono {size lo lo' : Nat} {m : Memory} (h : m.wfFrom size lo = true) (hle : lo' ≤ lo) :
    m.wfFrom size lo' = true := by
  cases m with
  | nil => rfl
  | cons c rest =>
    obtain ⟨a, b⟩ := c
    simp only [Memory.wfFrom, Bool.and_eq_true, decide_eq_true_eq] at h ⊢
    exact ⟨⟨⟨by omega, h.1.1.2⟩, h.1.2⟩, h.2⟩

/-- A read after a write, in a memory in canonical form: the byte written at its address, every other byte as before. -/
theorem Memory.read_write {size lo : Nat} {m : Memory} (h : m.wfFrom size lo = true) (k j : Nat) (v : Byte) :
    (m.write k v).read j = if j = k then v else m.read j := by
  induction m generalizing lo with
  | nil => simp [Memory.write, Memory.read_cell]
  | cons c rest ih =>
    obtain ⟨a, b⟩ := c
    have h' := h
    simp only [Memory.wfFrom, Bool.and_eq_true, decide_eq_true_eq] at h'
    unfold Memory.write
    split
    · rename_i hlt
      rw [Memory.read_cell_append]
      have : Memory.wfFrom size a ((a, b) :: rest) = true := by
        simp only [Memory.wfFrom, Bool.and_eq_true, decide_eq_true_eq]; exact ⟨⟨⟨by omega, h'.1.1.2⟩, h'.1.2⟩, h'.2⟩
      exact Memory.read_of_wfFrom_lt this hlt
    · split
      · rename_i hlt heq
        subst heq
        rw [Memory.read_cell_append _ _ _ _ (Memory.read_of_wfFrom_lt h'.2 (by omega))]
        by_cases hj : j = k
        · simp [hj]
        · simp [hj, Memory.read, Ne.symm hj]
      · rename_i hlt hne
        simp only [Memory.read]
        by_cases hj : a = j
        · have : j ≠ k := by omega
          simp [hj, this]
        · simp only [hj, if_false]; exact ih h'.2

/-- A write within the size keeps the canonical form. -/
theorem Memory.wfFrom_write {size lo : Nat} {m : Memory} (h : m.wfFrom size lo = true) {k : Nat} (hlo : lo ≤ k)
    (hk : k < size) (v : Byte) : (m.write k v).wfFrom size lo = true := by
  induction m generalizing lo with
  | nil =>
    unfold Memory.write Memory.cell
    split
    · rfl
    · rename_i hv; simp [Memory.wfFrom, hlo, hk, hv]
  | cons c rest ih =>
    obtain ⟨a, b⟩ := c
    simp only [Memory.wfFrom, Bool.and_eq_true, decide_eq_true_eq] at h
    unfold Memory.write
    split
    · rename_i hlt
      unfold Memory.cell
      split
      · simp only [List.nil_append, Memory.wfFrom, Bool.and_eq_true, decide_eq_true_eq]; exact h
      · rename_i hv
        simp only [List.cons_append, List.nil_append, Memory.wfFrom, Bool.and_eq_true, decide_eq_true_eq]
        exact ⟨⟨⟨hlo, hk⟩, by simp [hv]⟩, ⟨⟨by omega, h.1.1.2⟩, h.1.2⟩, h.2⟩
    · split
      · rename_i heq
        subst heq
        unfold Memory.cell
        split
        · exact Memory.wfFrom_mono h.2 (by omega)
        · rename_i hv
          simp only [List.cons_append, List.nil_append, Memory.wfFrom, Bool.and_eq_true, decide_eq_true_eq]
          exact ⟨⟨⟨hlo, hk⟩, by simp [hv]⟩, h.2⟩
      · simp only [Memory.wfFrom, Bool.and_eq_true, decide_eq_true_eq]
        exact ⟨h.1, ih h.2 (by omega)⟩

theorem Memory.wf_write {size : Nat} {m : Memory} (h : m.wf size = true) {k : Nat} (hk : k < size) (v : Byte) :
    (m.write k v).wf size = true := Memory.wfFrom_write h (Nat.zero_le k) hk v

/-- A read after a write in a memory of the machine. -/
theorem Memory.read_write_of_wf {size : Nat} {m : Memory} (h : m.wf size = true) (k j : Nat) (v : Byte) :
    (m.write k v).read j = if j = k then v else m.read j := Memory.read_write h k j v

/-- Memories in canonical form that read alike are equal data. -/
theorem Memory.ext_of_wfFrom {size lo : Nat} {m n : Memory} (hm : m.wfFrom size lo = true) (hn : n.wfFrom size lo = true)
    (h : ∀ k, m.read k = n.read k) : m = n := by
  induction m generalizing n lo with
  | nil =>
    cases n with
    | nil => rfl
    | cons c rest =>
      obtain ⟨a, b⟩ := c
      simp only [Memory.wfFrom, Bool.and_eq_true, bne_iff_ne] at hn
      exact absurd (h a).symm (by simpa [Memory.read] using hn.1.2)
  | cons c rest ih =>
    obtain ⟨a, b⟩ := c
    cases n with
    | nil =>
      simp only [Memory.wfFrom, Bool.and_eq_true, bne_iff_ne] at hm
      exact absurd (h a) (by simpa [Memory.read] using hm.1.2)
    | cons d rest' =>
      obtain ⟨a', b'⟩ := d
      simp only [Memory.wfFrom, Bool.and_eq_true, decide_eq_true_eq, bne_iff_ne] at hm hn
      have key : ∀ {x y : Nat} {u v : Byte} {r r' : Memory}, r'.wfFrom size (y + 1) = true → u ≠ unlistedByte →
          (∀ k, Memory.read ((x, u) :: r) k = Memory.read ((y, v) :: r') k) → y ≤ x := by
        intro x y u v r r' hr' hu hh
        by_contra hlt
        have h1 := hh x
        have hne : y ≠ x := by omega
        simp only [Memory.read, if_true, hne, if_false] at h1
        exact hu (h1.trans (Memory.read_of_wfFrom_lt hr' (by omega)))
      have e : a = a' := Nat.le_antisymm (key hm.2 hn.1.2 (fun k => (h k).symm)) (key hn.2 hm.1.2 h)
      subst e
      have hb : b = b' := by simpa [Memory.read] using h a
      subst hb
      congr 1
      refine ih hm.2 hn.2 fun k => ?_
      by_cases hk : a = k
      · subst hk
        rw [Memory.read_of_wfFrom_lt hm.2 (by omega), Memory.read_of_wfFrom_lt hn.2 (by omega)]
      · simpa [Memory.read, hk] using h k

/-- The canonical list of consecutive bytes is in canonical form. -/
theorem Memory.wfFrom_ofBytesFrom {size : Nat} (bytes : List Byte) (k : Nat) (h : k + bytes.length ≤ size) :
    (Memory.ofBytesFrom k bytes).wfFrom size k = true := by
  induction bytes generalizing k with
  | nil => rfl
  | cons b rest ih =>
    simp only [List.length_cons] at h
    have ih' := ih (k + 1) (by omega)
    unfold Memory.ofBytesFrom Memory.cell
    split
    · exact Memory.wfFrom_mono ih' (by omega)
    · rename_i hb
      simp only [List.cons_append, List.nil_append, Memory.wfFrom, Bool.and_eq_true, decide_eq_true_eq]
      exact ⟨⟨⟨Nat.le_refl k, by omega⟩, by simp [hb]⟩, ih'⟩

/-- The memory of a list of bytes reads back the list. -/
theorem Memory.read_ofBytesFrom (bytes : List Byte) (k j : Nat) :
    (Memory.ofBytesFrom k bytes).read (k + j) = bytes.getD j unlistedByte := by
  induction bytes generalizing k j with
  | nil => simp [Memory.ofBytesFrom]
  | cons b rest ih =>
    unfold Memory.ofBytesFrom
    have hw := Memory.wfFrom_ofBytesFrom (size := k + 1 + rest.length) rest (k + 1) (Nat.le_refl _)
    rw [Memory.read_cell_append _ _ _ _ (Memory.read_of_wfFrom_lt hw (by omega))]
    cases j with
    | zero => simp
    | succ j =>
      have : k + (j + 1) = (k + 1) + j := by omega
      have hne : ¬ k + 1 + j = k := by omega
      rw [this, ih]
      simp [hne]

end Sys2Proof.Machine
end

