-- ==== Sys2Proof/Laws/State.lean ====
section
/-! SUPPORT. The named updates of the state, field by field: each changes one field and leaves the others. -/

namespace Sys2Proof.Machine

@[simp] theorem State.setFlag_a (mask : Byte) (on : Bool) (s : State) : (s.setFlag mask on).a = s.a := rfl
@[simp] theorem State.setFlag_x (mask : Byte) (on : Bool) (s : State) : (s.setFlag mask on).x = s.x := rfl
@[simp] theorem State.setFlag_y (mask : Byte) (on : Bool) (s : State) : (s.setFlag mask on).y = s.y := rfl
@[simp] theorem State.setFlag_sp (mask : Byte) (on : Bool) (s : State) : (s.setFlag mask on).sp = s.sp := rfl
@[simp] theorem State.setFlag_p (mask : Byte) (on : Bool) (s : State) : (s.setFlag mask on).p = Machine.setFlag mask on s.p := rfl
@[simp] theorem State.setFlag_pc (mask : Byte) (on : Bool) (s : State) : (s.setFlag mask on).pc = s.pc := rfl
@[simp] theorem State.setFlag_cyc (mask : Byte) (on : Bool) (s : State) : (s.setFlag mask on).cyc = s.cyc := rfl
@[simp] theorem State.setFlag_irql (mask : Byte) (on : Bool) (s : State) : (s.setFlag mask on).irql = s.irql := rfl
@[simp] theorem State.setFlag_fault (mask : Byte) (on : Bool) (s : State) : (s.setFlag mask on).fault = s.fault := rfl
@[simp] theorem State.setFlag_ram (mask : Byte) (on : Bool) (s : State) : (s.setFlag mask on).ram = s.ram := rfl
@[simp] theorem State.setFlag_ppu (mask : Byte) (on : Bool) (s : State) : (s.setFlag mask on).ppu = s.ppu := rfl
@[simp] theorem State.setFlag_cart (mask : Byte) (on : Bool) (s : State) : (s.setFlag mask on).cart = s.cart := rfl
@[simp] theorem State.setFlag_params (mask : Byte) (on : Bool) (s : State) : (s.setFlag mask on).params = s.params := rfl
@[simp] theorem State.setFlag_draws (mask : Byte) (on : Bool) (s : State) : (s.setFlag mask on).draws = s.draws := rfl

@[simp] theorem State.setNZ_a (r : Byte) (s : State) : (s.setNZ r).a = s.a := rfl
@[simp] theorem State.setNZ_x (r : Byte) (s : State) : (s.setNZ r).x = s.x := rfl
@[simp] theorem State.setNZ_y (r : Byte) (s : State) : (s.setNZ r).y = s.y := rfl
@[simp] theorem State.setNZ_sp (r : Byte) (s : State) : (s.setNZ r).sp = s.sp := rfl
@[simp] theorem State.setNZ_p (r : Byte) (s : State) : (s.setNZ r).p = Machine.setNZ r s.p := rfl
@[simp] theorem State.setNZ_pc (r : Byte) (s : State) : (s.setNZ r).pc = s.pc := rfl
@[simp] theorem State.setNZ_cyc (r : Byte) (s : State) : (s.setNZ r).cyc = s.cyc := rfl
@[simp] theorem State.setNZ_irql (r : Byte) (s : State) : (s.setNZ r).irql = s.irql := rfl
@[simp] theorem State.setNZ_fault (r : Byte) (s : State) : (s.setNZ r).fault = s.fault := rfl
@[simp] theorem State.setNZ_ram (r : Byte) (s : State) : (s.setNZ r).ram = s.ram := rfl
@[simp] theorem State.setNZ_ppu (r : Byte) (s : State) : (s.setNZ r).ppu = s.ppu := rfl
@[simp] theorem State.setNZ_cart (r : Byte) (s : State) : (s.setNZ r).cart = s.cart := rfl
@[simp] theorem State.setNZ_params (r : Byte) (s : State) : (s.setNZ r).params = s.params := rfl
@[simp] theorem State.setNZ_draws (r : Byte) (s : State) : (s.setNZ r).draws = s.draws := rfl

@[simp] theorem State.addCycles_a (n : Nat) (s : State) : (s.addCycles n).a = s.a := rfl
@[simp] theorem State.addCycles_x (n : Nat) (s : State) : (s.addCycles n).x = s.x := rfl
@[simp] theorem State.addCycles_y (n : Nat) (s : State) : (s.addCycles n).y = s.y := rfl
@[simp] theorem State.addCycles_sp (n : Nat) (s : State) : (s.addCycles n).sp = s.sp := rfl
@[simp] theorem State.addCycles_p (n : Nat) (s : State) : (s.addCycles n).p = s.p := rfl
@[simp] theorem State.addCycles_pc (n : Nat) (s : State) : (s.addCycles n).pc = s.pc := rfl
@[simp] theorem State.addCycles_cyc (n : Nat) (s : State) : (s.addCycles n).cyc = s.cyc + BitVec.ofNat 64 n := rfl
@[simp] theorem State.addCycles_irql (n : Nat) (s : State) : (s.addCycles n).irql = s.irql := rfl
@[simp] theorem State.addCycles_fault (n : Nat) (s : State) : (s.addCycles n).fault = s.fault := rfl
@[simp] theorem State.addCycles_ram (n : Nat) (s : State) : (s.addCycles n).ram = s.ram := rfl
@[simp] theorem State.addCycles_ppu (n : Nat) (s : State) : (s.addCycles n).ppu = s.ppu := rfl
@[simp] theorem State.addCycles_cart (n : Nat) (s : State) : (s.addCycles n).cart = s.cart := rfl
@[simp] theorem State.addCycles_params (n : Nat) (s : State) : (s.addCycles n).params = s.params := rfl
@[simp] theorem State.addCycles_draws (n : Nat) (s : State) : (s.addCycles n).draws = s.draws := rfl

@[simp] theorem State.advancePc_a (n : Nat) (s : State) : (s.advancePc n).a = s.a := rfl
@[simp] theorem State.advancePc_x (n : Nat) (s : State) : (s.advancePc n).x = s.x := rfl
@[simp] theorem State.advancePc_y (n : Nat) (s : State) : (s.advancePc n).y = s.y := rfl
@[simp] theorem State.advancePc_sp (n : Nat) (s : State) : (s.advancePc n).sp = s.sp := rfl
@[simp] theorem State.advancePc_p (n : Nat) (s : State) : (s.advancePc n).p = s.p := rfl
@[simp] theorem State.advancePc_pc (n : Nat) (s : State) : (s.advancePc n).pc = s.pc + BitVec.ofNat 16 n := rfl
@[simp] theorem State.advancePc_cyc (n : Nat) (s : State) : (s.advancePc n).cyc = s.cyc := rfl
@[simp] theorem State.advancePc_irql (n : Nat) (s : State) : (s.advancePc n).irql = s.irql := rfl
@[simp] theorem State.advancePc_fault (n : Nat) (s : State) : (s.advancePc n).fault = s.fault := rfl
@[simp] theorem State.advancePc_ram (n : Nat) (s : State) : (s.advancePc n).ram = s.ram := rfl
@[simp] theorem State.advancePc_ppu (n : Nat) (s : State) : (s.advancePc n).ppu = s.ppu := rfl
@[simp] theorem State.advancePc_cart (n : Nat) (s : State) : (s.advancePc n).cart = s.cart := rfl
@[simp] theorem State.advancePc_params (n : Nat) (s : State) : (s.advancePc n).params = s.params := rfl
@[simp] theorem State.advancePc_draws (n : Nat) (s : State) : (s.advancePc n).draws = s.draws := rfl

@[simp] theorem charge_a (i : Instr) (crossed : Bool) (extra : Nat) (s : State) : (charge i crossed extra s).a = s.a := rfl
@[simp] theorem charge_x (i : Instr) (crossed : Bool) (extra : Nat) (s : State) : (charge i crossed extra s).x = s.x := rfl
@[simp] theorem charge_y (i : Instr) (crossed : Bool) (extra : Nat) (s : State) : (charge i crossed extra s).y = s.y := rfl
@[simp] theorem charge_sp (i : Instr) (crossed : Bool) (extra : Nat) (s : State) : (charge i crossed extra s).sp = s.sp := rfl
@[simp] theorem charge_p (i : Instr) (crossed : Bool) (extra : Nat) (s : State) : (charge i crossed extra s).p = s.p := rfl
@[simp] theorem charge_pc (i : Instr) (crossed : Bool) (extra : Nat) (s : State) : (charge i crossed extra s).pc = s.pc := rfl
@[simp] theorem charge_cyc (i : Instr) (crossed : Bool) (extra : Nat) (s : State) : (charge i crossed extra s).cyc = s.cyc + BitVec.ofNat 64 (stepCycles i crossed extra) := rfl
@[simp] theorem charge_irql (i : Instr) (crossed : Bool) (extra : Nat) (s : State) : (charge i crossed extra s).irql = s.irql := rfl
@[simp] theorem charge_fault (i : Instr) (crossed : Bool) (extra : Nat) (s : State) : (charge i crossed extra s).fault = s.fault := rfl
@[simp] theorem charge_ram (i : Instr) (crossed : Bool) (extra : Nat) (s : State) : (charge i crossed extra s).ram = s.ram := rfl
@[simp] theorem charge_ppu (i : Instr) (crossed : Bool) (extra : Nat) (s : State) : (charge i crossed extra s).ppu = s.ppu := rfl
@[simp] theorem charge_cart (i : Instr) (crossed : Bool) (extra : Nat) (s : State) : (charge i crossed extra s).cart = s.cart := rfl
@[simp] theorem charge_params (i : Instr) (crossed : Bool) (extra : Nat) (s : State) : (charge i crossed extra s).params = s.params := rfl
@[simp] theorem charge_draws (i : Instr) (crossed : Bool) (extra : Nat) (s : State) : (charge i crossed extra s).draws = s.draws := rfl

@[simp] theorem endService_a (s : State) : (endService s).a = s.a := rfl
@[simp] theorem endService_x (s : State) : (endService s).x = s.x := rfl
@[simp] theorem endService_y (s : State) : (endService s).y = s.y := rfl
@[simp] theorem endService_sp (s : State) : (endService s).sp = s.sp := rfl
@[simp] theorem endService_p (s : State) : (endService s).p = s.p := rfl
@[simp] theorem endService_pc (s : State) : (endService s).pc = s.pc := rfl
@[simp] theorem endService_cyc (s : State) : (endService s).cyc = s.cyc + 7 := rfl
@[simp] theorem endService_irql (s : State) : (endService s).irql = none := rfl
@[simp] theorem endService_fault (s : State) : (endService s).fault = s.fault := rfl
@[simp] theorem endService_ram (s : State) : (endService s).ram = s.ram := rfl
@[simp] theorem endService_ppu (s : State) : (endService s).ppu = s.ppu := rfl
@[simp] theorem endService_cart (s : State) : (endService s).cart = s.cart := rfl
@[simp] theorem endService_params (s : State) : (endService s).params = s.params := rfl
@[simp] theorem endService_draws (s : State) : (endService s).draws = s.draws := rfl

/-- A latch request changes nothing but the latch. -/
theorem State.raise_eq (kind : Interrupt) (s : State) :
    s.raise kind = { s with irql := if priority (some kind) > priority s.irql then some kind else s.irql } := by
  unfold State.raise; split <;> rfl

end Sys2Proof.Machine
end

