-- ==== Sys2Proof/Laws/Result.lean ====
section
/-! SUPPORT. Running operations one after another: what a sequence that ends well, or in a fault, has done. -/

namespace Sys2Proof.Machine

variable {α β : Type}

@[simp] theorem Result.bind_ok (a : α) (s : State) (k : α → State → Result β) : (Result.ok a s).bind k = k a s := rfl

@[simp] theorem Result.bind_fault (r : FaultRecord) (s : State) (k : α → State → Result β) :
    (Result.fault r s : Result α).bind k = .fault r s := rfl

/-- A sequence ends well exactly when both its parts do. -/
theorem Result.bind_eq_ok {r : Result α} {k : α → State → Result β} {b : β} {t : State} :
    r.bind k = .ok b t ↔ ∃ a s, r = .ok a s ∧ k a s = .ok b t := by
  cases r <;> simp

/-- A sequence faults exactly when its first part does, or its second after it. -/
theorem Result.bind_eq_fault {r : Result α} {k : α → State → Result β} {e : FaultRecord} {t : State} :
    r.bind k = .fault e t ↔ r = .fault e t ∨ ∃ a s, r = .ok a s ∧ k a s = .fault e t := by
  cases r <;> simp

@[simp] theorem Result.toOutcome_ok (u : Unit) (s : State) : (Result.ok u s).toOutcome = .next s := rfl

@[simp] theorem Result.toOutcome_fault (e : FaultRecord) (s : State) :
    (Result.fault e s : Result Unit).toOutcome = .fault (e.raise s) := rfl

/-- An outcome is a next state exactly when the result is that state. -/
theorem Result.toOutcome_eq_next {r : Result Unit} {t : State} : r.toOutcome = .next t ↔ r = .ok () t := by
  cases r <;> simp

/-- No result is a refusal. -/
theorem Result.toOutcome_ne_refused {r : Result Unit} {e : Refusal} : r.toOutcome ≠ .refused e := by
  cases r <;> simp

end Sys2Proof.Machine
end

