-- ==== Sys2Proof/Laws/Ops.lean ====
section
/-! SUPPORT. The buses and the stack: where each access goes, what it can change, and that it keeps every memory in
canonical form. -/

namespace Sys2Proof.Machine

/-- Two states agree in everything a bus access cannot reach: the CPU's registers, its latch and counters, the fault
record and the parameters. -/
structure SameCpu (s t : State) : Prop where
  a : t.a = s.a
  x : t.x = s.x
  y : t.y = s.y
  sp : t.sp = s.sp
  p : t.p = s.p
  pc : t.pc = s.pc
  cyc : t.cyc = s.cyc
  irql : t.irql = s.irql
  fault : t.fault = s.fault
  params : t.params = s.params

theorem SameCpu.refl (s : State) : SameCpu s s := ⟨rfl, rfl, rfl, rfl, rfl, rfl, rfl, rfl, rfl, rfl⟩

theorem SameCpu.trans {s t u : State} (h : SameCpu s t) (k : SameCpu t u) : SameCpu s u :=
  ⟨k.a.trans h.a, k.x.trans h.x, k.y.trans h.y, k.sp.trans h.sp, k.p.trans h.p, k.pc.trans h.pc, k.cyc.trans h.cyc,
    k.irql.trans h.irql, k.fault.trans h.fault, k.params.trans h.params⟩

theorem SameMemory.refl (s : State) : SameMemory s s := ⟨rfl, rfl, rfl, rfl, rfl, rfl⟩

theorem SameMemory.trans {s t u : State} (h : SameMemory s t) (k : SameMemory t u) : SameMemory s u := by
  obtain ⟨h1, h2, h3, h4, h5, h6⟩ := h
  obtain ⟨k1, k2, k3, k4, k5, k6⟩ := k
  exact ⟨k1.trans h1, k2.trans h2, k3.trans h3, k4.trans h4, k5.trans h5, k6.trans h6⟩

/-! ## Reads -/

/-- A PPU-bus read changes nothing, and leaves the state where it faults. -/
theorem ppuRead_ok {pc0 : Word} {a : BitVec 14} {s t : State} {b : Byte} (h : ppuRead pc0 a s = .ok b t) :
    t = s ∧ ppuPeek a s = some b := by
  unfold ppuRead at h; split at h <;> simp_all

theorem ppuRead_fault {pc0 : Word} {a : BitVec 14} {s t : State} {e : FaultRecord} (h : ppuRead pc0 a s = .fault e t) :
    t = s := by
  unfold ppuRead at h; split at h <;> simp_all

/-- With a cartridge every PPU-bus address is readable. -/
theorem ppuPeek_isSome {a : BitVec 14} {s : State} {c : Cartridge} (h : s.cart = some c) :
    ∃ b, ppuPeek a s = some b := by
  unfold ppuPeek; split
  · simp [h]
  · split <;> simp [h]

/-- What a port read changes: the PPU's status, toggle, buffer and address, and the model's draw counter. -/
theorem readPort_ok {pc0 : Word} {port : PpuPort} {s t : State} {b : Byte} (h : readPort pc0 port s = .ok b t) :
    ∃ (status : Byte) (w : Bool) (rdbuf : Byte) (v : BitVec 15) (draws : Nat),
      t = { s with ppu := { s.ppu with status := status, w := w, rdbuf := rdbuf, v := v }, draws := draws } ∧
      (status = s.ppu.status ∨ status = s.ppu.status &&& 0x7F) := by
  have bus : ∀ {b t}, readOpenBus s = .ok b t → ∃ d, t = { s with draws := d } := by
    intro b t h; unfold readOpenBus at h
    split at h <;> cases h
    · exact ⟨s.draws, rfl⟩
    · exact ⟨_, rfl⟩
  have lift : (∃ d, t = { s with draws := d }) → ∃ (status : Byte) (w : Bool) (rdbuf : Byte) (v : BitVec 15)
      (draws : Nat), t = { s with
        ppu := { s.ppu with status := status, w := w, rdbuf := rdbuf, v := v }, draws := draws } ∧
      (status = s.ppu.status ∨ status = s.ppu.status &&& 0x7F) := by
    rintro ⟨d, rfl⟩; exact ⟨s.ppu.status, s.ppu.w, s.ppu.rdbuf, s.ppu.v, d, rfl, .inl rfl⟩
  cases port with
  | ctrl => exact lift (bus h)
  | mask => exact lift (bus h)
  | oamAddr => exact lift (bus h)
  | scroll => exact lift (bus h)
  | addr => exact lift (bus h)
  | oamData => cases h; exact lift ⟨s.draws, rfl⟩
  | status => cases h; exact ⟨_, _, _, _, _, rfl, .inr rfl⟩
  | data =>
    simp only [readPort, readData] at h
    obtain ⟨b1, s1, h1, h⟩ := Result.bind_eq_ok.mp h
    obtain ⟨rfl, -⟩ := ppuRead_ok h1
    by_cases hlt : (busAddress s1.ppu.v).toNat < 0x3F00
    · rw [if_pos hlt] at h; cases h; exact ⟨_, _, _, _, _, rfl, .inl rfl⟩
    · rw [if_neg hlt] at h
      obtain ⟨b2, s2, h2, h3⟩ := Result.bind_eq_ok.mp h
      obtain ⟨rfl, -⟩ := ppuRead_ok h2
      cases h3; exact ⟨_, _, _, _, _, rfl, .inl rfl⟩

theorem readPort_fault {pc0 : Word} {port : PpuPort} {s t : State} {e : FaultRecord}
    (h : readPort pc0 port s = .fault e t) : t = s := by
  have bus : ∀ {e t}, readOpenBus s ≠ .fault e t := by
    intro e t h; unfold readOpenBus at h; split at h <;> cases h
  cases port with
  | ctrl => exact absurd h bus
  | mask => exact absurd h bus
  | oamAddr => exact absurd h bus
  | scroll => exact absurd h bus
  | addr => exact absurd h bus
  | oamData => cases h
  | status => cases h
  | data =>
    simp only [readPort, readData] at h
    rcases Result.bind_eq_fault.mp h with h | ⟨b1, s1, h1, h⟩
    · exact ppuRead_fault h
    · obtain ⟨rfl, -⟩ := ppuRead_ok h1
      by_cases hlt : (busAddress s1.ppu.v).toNat < 0x3F00
      · rw [if_pos hlt] at h; cases h
      · rw [if_neg hlt] at h
        rcases Result.bind_eq_fault.mp h with h | ⟨b2, s2, h2, h⟩
        · exact ppuRead_fault h
        · cases h

/-- A read of RAM changes nothing (20_memory.md rule R82). -/
theorem memRead_ram {pc0 a : Word} {s : State} (h : a.toNat < 0x2000) :
    memRead pc0 a s = .ok (s.ram.read (ramIndex a)) s := by simp [memRead, h]

theorem memRead_port {pc0 a : Word} {s : State} (h : 0x2000 ≤ a.toNat) (h' : a.toNat < 0x4000) :
    memRead pc0 a s = readPort pc0 (portOf a) s := by
  simp [memRead, h', Nat.not_lt.mpr h]

theorem memRead_unmapped {pc0 a : Word} {s : State} (h : 0x4000 ≤ a.toNat) (h' : a.toNat < 0x8000) :
    memRead pc0 a s = .fault (.bus .read a pc0) s := by
  have h1 : ¬ a.toNat < 0x2000 := by omega
  have h2 : ¬ a.toNat < 0x4000 := by omega
  simp [memRead, h1, h2, h']

theorem memRead_prg {pc0 a : Word} {s : State} {c : Cartridge} (h : 0x8000 ≤ a.toNat) (hc : s.cart = some c) :
    memRead pc0 a s = .ok (c.prg.read (prgIndex c.prgSize a)) s := by
  have h1 : ¬ a.toNat < 0x2000 := by omega
  have h2 : ¬ a.toNat < 0x4000 := by omega
  have h3 : ¬ a.toNat < 0x8000 := by omega
  simp [memRead, h1, h2, h3, hc]

/-- Outside the PPU window a read changes nothing. -/
theorem memRead_plain {pc0 a : Word} {s t : State} {b : Byte} (h : a.toNat < 0x2000 ∨ 0x4000 ≤ a.toNat)
    (hr : memRead pc0 a s = .ok b t) : t = s := by
  unfold memRead at hr
  split at hr
  · cases hr; rfl
  · split at hr
    · omega
    · split at hr
      · cases hr
      · split at hr <;> cases hr; rfl

theorem memRead_fault {pc0 a : Word} {s t : State} {e : FaultRecord} (h : memRead pc0 a s = .fault e t) : t = s := by
  unfold memRead at h
  split at h
  · cases h
  · split at h
    · exact readPort_fault h
    · split at h
      · cases h; rfl
      · split at h <;> cases h; rfl

/-- What a CPU-bus read changes: nothing, or what a PPU port read changes. -/
theorem memRead_ok {pc0 a : Word} {s t : State} {b : Byte} (h : memRead pc0 a s = .ok b t) :
    ∃ (status : Byte) (w : Bool) (rdbuf : Byte) (v : BitVec 15) (draws : Nat),
      t = { s with ppu := { s.ppu with status := status, w := w, rdbuf := rdbuf, v := v }, draws := draws } ∧
      (status = s.ppu.status ∨ status = s.ppu.status &&& 0x7F) := by
  by_cases hp : 0x2000 ≤ a.toNat ∧ a.toNat < 0x4000
  · rw [memRead_port hp.1 hp.2] at h; exact readPort_ok h
  · obtain rfl := memRead_plain (by omega) h
    exact ⟨_, _, _, _, _, rfl, .inl rfl⟩

theorem memRead_sameCpu {pc0 a : Word} {s t : State} {b : Byte} (h : memRead pc0 a s = .ok b t) : SameCpu s t := by
  obtain ⟨_, _, _, _, _, rfl, -⟩ := memRead_ok h; exact ⟨rfl, rfl, rfl, rfl, rfl, rfl, rfl, rfl, rfl, rfl⟩

theorem memRead_sameMemory {pc0 a : Word} {s t : State} {b : Byte} (h : memRead pc0 a s = .ok b t) :
    SameMemory s t := by
  obtain ⟨_, _, _, _, _, rfl, -⟩ := memRead_ok h; exact ⟨rfl, rfl, rfl, rfl, rfl, rfl⟩

theorem memRead_cart {pc0 a : Word} {s t : State} {b : Byte} (h : memRead pc0 a s = .ok b t) : t.cart = s.cart := by
  obtain ⟨_, _, _, _, _, rfl, -⟩ := memRead_ok h; rfl

/-- A zero-page address reads RAM at the byte's own index. -/
theorem memRead_zeroPage (pc0 : Word) (z : Byte) (s : State) :
    memRead pc0 (z.setWidth 16) s = .ok (s.ram.read z.toNat) s := by
  have hz := z.isLt
  have e : (z.setWidth 16).toNat = z.toNat := by simp; omega
  rw [memRead_ram (by omega), ramIndex, e, Nat.mod_eq_of_lt (by omega)]

/-! ## Writes -/

theorem memWrite_ram {pc0 a : Word} {d : Byte} {s : State} (h : a.toNat < 0x2000) :
    memWrite pc0 a d s = .ok () { s with ram := s.ram.write (ramIndex a) d } := by simp [memWrite, h]

theorem memWrite_port {pc0 a : Word} {d : Byte} {s : State} (h : 0x2000 ≤ a.toNat) (h' : a.toNat < 0x4000) :
    memWrite pc0 a d s = writePort pc0 (portOf a) d s := by
  simp [memWrite, h', Nat.not_lt.mpr h]

theorem memWrite_unmapped {pc0 a : Word} {d : Byte} {s : State} (h : 0x4000 ≤ a.toNat) :
    memWrite pc0 a d s = .fault (.bus .write a pc0) s := by
  have h1 : ¬ a.toNat < 0x2000 := by omega
  have h2 : ¬ a.toNat < 0x4000 := by omega
  simp [memWrite, h1, h2]

/-- What a PPU-bus write changes: one byte of CHR-RAM, of the nametables or of the palette. -/
theorem ppuWrite_ok {pc0 : Word} {a : BitVec 14} {d : Byte} {s t : State} (h : ppuWrite pc0 a d s = .ok () t) :
    t = s ∨ (∃ c, s.cart = some c ∧ c.chrIsRam = true ∧ a.toNat < 0x2000 ∧
        t = { s with cart := some { c with chr := c.chr.write a.toNat d } }) ∨
      (∃ c, s.cart = some c ∧ t = { s with ppu := { s.ppu with vram := s.ppu.vram.write (ntIndex c.mirroring a) d } }) ∨
      t = { s with ppu := { s.ppu with pal := s.ppu.pal.write (palIndex a) d } } := by
  unfold ppuWrite at h
  split at h
  · rename_i hlt
    split at h
    · rename_i c hc
      unfold chrWrite at h
      split at h
      · rename_i hram; cases h; exact .inr (.inl ⟨c, hc, hram, hlt, rfl⟩)
      · split at h <;> cases h; exact .inl rfl
    · cases h
  · split at h
    · split at h
      · rename_i c hc; cases h; exact .inr (.inr (.inl ⟨c, hc, rfl⟩))
      · cases h
    · cases h; exact .inr (.inr (.inr rfl))

theorem ppuWrite_fault {pc0 : Word} {a : BitVec 14} {d : Byte} {s t : State} {e : FaultRecord}
    (h : ppuWrite pc0 a d s = .fault e t) : t = s := by
  unfold ppuWrite chrWrite at h
  split at h
  · split at h
    · split at h
      · cases h
      · split at h <;> cases h; rfl
    · cases h; rfl
  · split at h
    · split at h <;> cases h; rfl
    · cases h

theorem writePort_fault {pc0 : Word} {port : PpuPort} {d : Byte} {s t : State} {e : FaultRecord}
    (h : writePort pc0 port d s = .fault e t) : t = s := by
  cases port with
  | data =>
    simp only [writePort, writeData] at h
    rcases Result.bind_eq_fault.mp h with h | ⟨_, _, _, h⟩
    · exact ppuWrite_fault h
    · cases h
  | ctrl => cases h
  | mask => cases h
  | status => cases h
  | oamAddr => cases h
  | oamData => cases h
  | scroll => cases h
  | addr => cases h

theorem memWrite_fault {pc0 a : Word} {d : Byte} {s t : State} {e : FaultRecord}
    (h : memWrite pc0 a d s = .fault e t) : t = s := by
  unfold memWrite at h
  split at h
  · cases h
  · split at h
    · exact writePort_fault h
    · cases h; rfl

/-- A port write reaches neither the CPU nor its RAM. -/
theorem writePort_sameCpu {pc0 : Word} {port : PpuPort} {d : Byte} {s t : State}
    (h : writePort pc0 port d s = .ok () t) : SameCpu s t ∧ t.ram = s.ram ∧ t.draws = s.draws := by
  have r : SameCpu s s ∧ s.ram = s.ram ∧ s.draws = s.draws := ⟨.refl s, rfl, rfl⟩
  cases port with
  | data =>
    simp only [writePort, writeData] at h
    obtain ⟨_, s1, h1, h⟩ := Result.bind_eq_ok.mp h
    cases h
    rcases ppuWrite_ok h1 with rfl | ⟨_, _, _, _, rfl⟩ | ⟨_, _, rfl⟩ | rfl <;>
      exact ⟨⟨rfl, rfl, rfl, rfl, rfl, rfl, rfl, rfl, rfl, rfl⟩, rfl, rfl⟩
  | ctrl => cases h; exact ⟨⟨rfl, rfl, rfl, rfl, rfl, rfl, rfl, rfl, rfl, rfl⟩, rfl, rfl⟩
  | mask => cases h; exact ⟨⟨rfl, rfl, rfl, rfl, rfl, rfl, rfl, rfl, rfl, rfl⟩, rfl, rfl⟩
  | status => cases h; exact r
  | oamAddr => cases h; exact ⟨⟨rfl, rfl, rfl, rfl, rfl, rfl, rfl, rfl, rfl, rfl⟩, rfl, rfl⟩
  | oamData => cases h; exact ⟨⟨rfl, rfl, rfl, rfl, rfl, rfl, rfl, rfl, rfl, rfl⟩, rfl, rfl⟩
  | scroll => cases h; exact ⟨⟨rfl, rfl, rfl, rfl, rfl, rfl, rfl, rfl, rfl, rfl⟩, rfl, rfl⟩
  | addr => cases h; exact ⟨⟨rfl, rfl, rfl, rfl, rfl, rfl, rfl, rfl, rfl, rfl⟩, rfl, rfl⟩

theorem memWrite_sameCpu {pc0 a : Word} {d : Byte} {s t : State} (h : memWrite pc0 a d s = .ok () t) :
    SameCpu s t := by
  unfold memWrite at h
  split at h
  · cases h; exact ⟨rfl, rfl, rfl, rfl, rfl, rfl, rfl, rfl, rfl, rfl⟩
  · split at h
    · exact (writePort_sameCpu h).1
    · cases h

/-! ## The stack -/

/-- The stack page is RAM, and its slot is `0x100 + S`. -/
theorem stackAddress_toNat (sp : Byte) : (stackAddress sp).toNat = 0x100 + sp.toNat := by
  have h : ∀ b : Byte, (stackAddress b).toNat = 0x100 + b.toNat := by decide
  exact h sp

/-- A push never faults (45_stack_flags.md): it stores in RAM and lowers S. -/
theorem push_eq (pc0 : Word) (d : Byte) (s : State) : push pc0 d s = .ok () (s.pushed d) := by
  have hb := s.sp.isLt
  unfold push
  rw [memWrite_ram (by rw [stackAddress_toNat]; omega)]
  simp only [Result.bind_ok, ramIndex, stackAddress_toNat, State.pushed]
  rw [Nat.mod_eq_of_lt (by omega)]

/-- A pull never faults: S rises and the byte at the new slot is read. -/
theorem pull_eq (pc0 : Word) (s : State) : pull pc0 s = .ok (s.stackByte 1) { s with sp := s.sp + 1 } := by
  have hb := (s.sp + 1).isLt
  unfold pull
  rw [memRead_ram (by rw [stackAddress_toNat]; omega)]
  simp only [ramIndex, stackAddress_toNat, State.stackByte]
  rw [Nat.mod_eq_of_lt (by omega)]
  rfl

theorem push16_eq (pc0 : Word) (w : Word) (s : State) :
    push16 pc0 w s = .ok () ((s.pushed (highByte w)).pushed (lowByte w)) := by
  simp [push16, push_eq]

theorem pull16_eq (pc0 : Word) (s : State) :
    pull16 pc0 s = .ok (wordOf (s.stackByte 1) (s.stackByte 2)) { s with sp := s.sp + 2 } := by
  have e : s.sp + 1 + 1 = s.sp + 2 := by rw [BitVec.add_assoc]; rfl
  simp only [pull16, pull_eq, Result.bind_ok, State.stackByte, e]
  have e' : s.sp + 1 + BitVec.ofNat 8 1 = s.sp + BitVec.ofNat 8 2 := by rw [BitVec.add_assoc]; rfl
  simp only [e']

/-- With a cartridge a vector is readable and nothing changes (20_memory.md rule R89). -/
theorem read16_prg {pc0 a : Word} {s : State} {c : Cartridge} (h : 0x8000 ≤ a.toNat) (h' : a.toNat < 0xFFFF)
    (hc : s.cart = some c) :
    read16 pc0 a s =
      .ok (wordOf (c.prg.read (prgIndex c.prgSize a)) (c.prg.read (prgIndex c.prgSize (a + 1)))) s := by
  have e : (a + 1).toNat = a.toNat + 1 := by simp [BitVec.toNat_add]; omega
  unfold read16
  rw [memRead_prg h hc]
  simp only [Result.bind_ok]
  rw [memRead_prg (by omega) hc]
  rfl

/-! ## The canonical form -/

theorem ntIndex_lt (m : Mirroring) (a : BitVec 14) : ntIndex m a < 0x800 := by
  unfold ntIndex; cases m <;> simp only <;> omega

theorem palIndex_lt (a : BitVec 14) : palIndex a < 0x20 := by
  have h : ∀ i : BitVec 14, (i &&& 0x1F).toNat < 0x20 := fun i => by
    rw [BitVec.toNat_and]; exact Nat.lt_of_le_of_lt Nat.and_le_right (by decide)
  have h' : ∀ i : BitVec 14, (i &&& 0x0F).toNat < 0x20 := fun i => by
    rw [BitVec.toNat_and]; exact Nat.lt_of_le_of_lt Nat.and_le_right (by decide)
  unfold palIndex
  simp only
  split
  · exact h' _
  · exact h _

theorem memRead_memoryWf {pc0 a : Word} {s t : State} {b : Byte} (h : memRead pc0 a s = .ok b t) (hw : s.memoryWf) :
    t.memoryWf := by
  obtain ⟨_, _, _, _, _, rfl, -⟩ := memRead_ok h; exact hw

theorem ppuWrite_memoryWf {pc0 : Word} {a : BitVec 14} {d : Byte} {s t : State} (h : ppuWrite pc0 a d s = .ok () t)
    (hw : s.memoryWf) : t.memoryWf := by
  obtain ⟨h1, h2, h3, h4, h5⟩ := hw
  rcases ppuWrite_ok h with rfl | ⟨c, hc, hram, hlt, rfl⟩ | ⟨c, hc, rfl⟩ | rfl
  · exact ⟨h1, h2, h3, h4, h5⟩
  · refine ⟨h1, h2, h3, h4, ?_⟩
    rintro c' hc'
    cases hc'
    obtain ⟨k1, k2, k3, k4⟩ := h5 c hc
    exact ⟨k1, Memory.wf_write k2 (by omega) d, k3, k4⟩
  · exact ⟨h1, Memory.wf_write h2 (ntIndex_lt _ _) d, h3, h4, h5⟩
  · exact ⟨h1, h2, h3, Memory.wf_write h4 (palIndex_lt _) d, h5⟩

theorem writePort_memoryWf {pc0 : Word} {port : PpuPort} {d : Byte} {s t : State}
    (h : writePort pc0 port d s = .ok () t) (hw : s.memoryWf) : t.memoryWf := by
  cases port with
  | data =>
    simp only [writePort, writeData] at h
    obtain ⟨_, s1, h1, h⟩ := Result.bind_eq_ok.mp h
    have hw1 := ppuWrite_memoryWf h1 hw
    cases h
    exact hw1
  | ctrl => cases h; exact hw
  | mask => cases h; exact hw
  | status => cases h; exact hw
  | oamAddr => cases h; exact hw
  | oamData =>
    cases h
    obtain ⟨h1, h2, h3, h4, h5⟩ := hw
    exact ⟨h1, h2, Memory.wf_write h3 s.ppu.oamaddr.isLt d, h4, h5⟩
  | scroll =>
    cases h
    simp only [State.memoryWf, Ppu.writeScroll] at hw ⊢
    split <;> exact hw
  | addr =>
    cases h
    simp only [State.memoryWf, Ppu.writeAddr] at hw ⊢
    split <;> exact hw

/-- Every CPU-bus write keeps every memory in canonical form. -/
theorem memWrite_memoryWf {pc0 a : Word} {d : Byte} {s t : State} (h : memWrite pc0 a d s = .ok () t)
    (hw : s.memoryWf) : t.memoryWf := by
  unfold memWrite at h
  split at h
  · cases h
    exact ⟨Memory.wf_write hw.1 (Nat.mod_lt _ (by decide)) d, hw.2⟩
  · split at h
    · exact writePort_memoryWf h hw
    · cases h

theorem pushed_memoryWf {d : Byte} {s : State} (hw : s.memoryWf) : (s.pushed d).memoryWf :=
  ⟨Memory.wf_write hw.1 (by have := s.sp.isLt; omega) d, hw.2⟩

/-- The reset state's memories are in canonical form. -/
theorem reset_memoryWf : State.reset.memoryWf := by
  refine ⟨rfl, rfl, rfl, rfl, ?_⟩
  intro c hc; cases hc

/-! ## The PPU's well-formedness across bus accesses -/

theorem memRead_ppuWf {pc0 a : Word} {s t : State} {b : Byte} (h : memRead pc0 a s = .ok b t) (hw : s.ppuWf) :
    t.ppuWf := by
  obtain ⟨st, _, _, _, _, rfl, hst⟩ := memRead_ok h
  obtain ⟨h1, h2⟩ := hw
  refine ⟨?_, h2⟩
  have key : ∀ b : Byte, b &&& 0x1F = 0 → b &&& 0x7F &&& 0x1F = 0 := by decide
  rcases hst with rfl | rfl
  · exact h1
  · exact key _ h1

theorem writePort_ppuWf {pc0 : Word} {port : PpuPort} {d : Byte} {s t : State}
    (h : writePort pc0 port d s = .ok () t) (hw : s.ppuWf) : t.ppuWf := by
  cases port with
  | data =>
    simp only [writePort, writeData] at h
    obtain ⟨_, s1, h1, h⟩ := Result.bind_eq_ok.mp h
    cases h
    rcases ppuWrite_ok h1 with rfl | ⟨_, _, _, _, rfl⟩ | ⟨_, _, rfl⟩ | rfl <;> exact hw
  | ctrl => cases h; exact hw
  | mask => cases h; exact hw
  | status => cases h; exact hw
  | oamAddr => cases h; exact hw
  | oamData => cases h; exact hw
  | scroll =>
    cases h
    simp only [State.ppuWf, Ppu.writeScroll] at hw ⊢
    split <;> exact hw
  | addr =>
    cases h
    simp only [State.ppuWf, Ppu.writeAddr] at hw ⊢
    split <;> exact hw

theorem memWrite_ppuWf {pc0 a : Word} {d : Byte} {s t : State} (h : memWrite pc0 a d s = .ok () t) (hw : s.ppuWf) :
    t.ppuWf := by
  unfold memWrite at h
  split at h
  · cases h; exact hw
  · split at h
    · exact writePort_ppuWf h hw
    · cases h

end Sys2Proof.Machine
end

