-- ==== Sys2Proof/Laws/Exec.lean ====
section
/-! SUPPORT. Every instruction's meaning as its mnemonic's handler on its operand (40_addressing.md rule R195), and what
each shape of instruction has done when it answers a next state. -/

namespace Sys2Proof.Machine

/-- The handler of a mnemonic: one of the shapes of Sys2Proof/Machine/Operands.lean with what it does. -/
inductive Handler where
  | implied (effect : State → State)
  | stack (effect : Word → State → Result Unit)
  | read (effect : Byte → State → State)
  | store (value : State → Byte)
  | rmw (op : RmwOp)
  | branch (mask : Byte) (want : Bool)
  | jump
  | call
  | nop

/-- The handler table of rule R195. -/
def handlerOf : Mnemonic → Handler
  | .lda => .read ldaEffect
  | .ldx => .read ldxEffect
  | .ldy => .read ldyEffect
  | .sta => .store staValue
  | .stx => .store stxValue
  | .sty => .store styValue
  | .tax => .implied taxEffect
  | .tay => .implied tayEffect
  | .tsx => .implied tsxEffect
  | .txa => .implied txaEffect
  | .txs => .implied txsEffect
  | .tya => .implied tyaEffect
  | .adc => .read adcEffect
  | .sbc => .read sbcEffect
  | .and => .read andEffect
  | .ora => .read oraEffect
  | .eor => .read eorEffect
  | .bit => .read bitEffect
  | .cmp => .read cmpEffect
  | .cpx => .read cpxEffect
  | .cpy => .read cpyEffect
  | .inc => .rmw incOp
  | .dec => .rmw decOp
  | .inx => .implied inxEffect
  | .iny => .implied inyEffect
  | .dex => .implied dexEffect
  | .dey => .implied deyEffect
  | .asl => .rmw aslOp
  | .lsr => .rmw lsrOp
  | .rol => .rmw rolOp
  | .ror => .rmw rorOp
  | .bcc => .branch maskC false
  | .bcs => .branch maskC true
  | .beq => .branch maskZ true
  | .bmi => .branch maskN true
  | .bne => .branch maskZ false
  | .bpl => .branch maskN false
  | .bvc => .branch maskV false
  | .bvs => .branch maskV true
  | .jmp => .jump
  | .jsr => .call
  | .rts => .stack rtsEffect
  | .brk => .stack brkEffect
  | .rti => .stack rtiEffect
  | .nop => .nop
  | .pha => .stack phaEffect
  | .php => .stack phpEffect
  | .pla => .stack plaEffect
  | .plp => .stack plpEffect
  | .clc => .implied clcEffect
  | .sec => .implied secEffect
  | .cli => .implied cliEffect
  | .sei => .implied seiEffect
  | .cld => .implied cldEffect
  | .sed => .implied sedEffect
  | .clv => .implied clvEffect
  | .lax => .read laxEffect
  | .sax => .store saxValue
  | .dcp => .rmw dcpOp
  | .isc => .rmw iscOp
  | .slo => .rmw sloOp
  | .rla => .rmw rlaOp
  | .sre => .rmw sreOp
  | .rra => .rmw rraOp

/-- A handler run on an operand of a mode it has; no row pairs the others, and `perform` then answers a refusal. -/
def Handler.run (h : Handler) (i : Instr) (operand : Operand) (s : State) : Out :=
  match h, operand with
  | .implied effect, .implied => runImplied i effect s
  | .stack effect, .implied => runStack i effect s
  | .read effect, .immediate b => runRead i (.imm b) effect s
  | .read effect, .mem m => runRead i (.mem m) effect s
  | .store value, .mem m => runStore i m value s
  | .rmw op, .accumulator => runRmw i .acc op s
  | .rmw op, .mem m => runRmw i (.mem m) op s
  | .branch mask want, .relative off => runBranch i off mask want s
  | .jump, .mem m => runJump i m s
  | .call, .mem (.absolute addr) => runStack i (jsrEffect addr) s
  | .nop, .implied => runImplied i nopEffect s
  | .nop, .immediate _ => runImplied i nopEffect s
  | .nop, .mem m => runSkip i m s
  | _, _ => .refused .noCartridge

/-- What an instruction means, by its mnemonic and operand. -/
def perform (i : Instr) (s : State) : Out := (handlerOf i.mnemonic).run i i.operand s

/-- The dispatch selects the handler of the mnemonic (rule R195). -/
theorem exec_eq_perform (i : Instr) (s : State) : exec i s = perform i s := by cases i <;> rfl

/-- What an instruction means, with its mnemonic known. -/
theorem exec_of_mnemonic {i : Instr} {m : Mnemonic} (h : i.mnemonic = m) (s : State) :
    exec i s = (handlerOf m).run i i.operand s := by rw [exec_eq_perform, perform, h]

/-- PC stands behind the instruction when its meaning runs, so `startPc` is the opcode's address (rule R32). -/
theorem startPc_advance (i : Instr) (s : State) (pc0 : Word) (h : s.pc = pc0 + BitVec.ofNat 16 i.size) :
    startPc i s = pc0 := by
  unfold startPc; rw [h]; exact BitVec.add_sub_cancel _ _

/-! ## Operands -/

/-- What resolving an operand changes: nothing outside what bus reads do. -/
theorem resolve_ok {pc0 : Word} {m : MemOperand} {s t : State} {r : Resolved} (h : resolve pc0 m s = .ok r t) :
    SameCpu s t ∧ SameMemory s t ∧ t.cart = s.cart ∧ (s.memoryWf → t.memoryWf) ∧ (s.ppuWf → t.ppuWf) := by
  have pure : ∀ {r' : Resolved}, Result.ok r' s = .ok r t →
      SameCpu s t ∧ SameMemory s t ∧ t.cart = s.cart ∧ (s.memoryWf → t.memoryWf) ∧ (s.ppuWf → t.ppuWf) := by
    intro r' h; cases h; exact ⟨.refl _, .refl _, rfl, id, id⟩
  have two : ∀ {a b : Word} {f : Byte → Byte → Resolved},
      ((memRead pc0 a s).bind fun lo s => (memRead pc0 b s).bind fun hi s => .ok (f lo hi) s) = .ok r t →
      SameCpu s t ∧ SameMemory s t ∧ t.cart = s.cart ∧ (s.memoryWf → t.memoryWf) ∧ (s.ppuWf → t.ppuWf) := by
    intro a b f h
    obtain ⟨lo, s1, h1, h⟩ := Result.bind_eq_ok.mp h
    obtain ⟨hi, s2, h2, h⟩ := Result.bind_eq_ok.mp h
    cases h
    exact ⟨(memRead_sameCpu h1).trans (memRead_sameCpu h2), (memRead_sameMemory h1).trans (memRead_sameMemory h2),
      (memRead_cart h2).trans (memRead_cart h1), fun w => memRead_memoryWf h2 (memRead_memoryWf h1 w),
      fun w => memRead_ppuWf h2 (memRead_ppuWf h1 w)⟩
  cases m with
  | zeroPage zp => exact pure h
  | zeroPageX zp => exact pure h
  | zeroPageY zp => exact pure h
  | absolute addr => exact pure h
  | absoluteX addr => exact pure h
  | absoluteY addr => exact pure h
  | indirect ptr => exact two (f := fun lo hi => ⟨wordOf lo hi, false⟩) h
  | indirectX zp =>
    simp only [resolve, read16Zp, memRead_zeroPage, Result.bind_ok] at h
    exact pure h
  | indirectY zp =>
    simp only [resolve, read16Zp, memRead_zeroPage, Result.bind_ok] at h
    exact pure h

/-- A zero-page pointer is read from RAM and changes nothing. -/
theorem read16Zp_eq (pc0 : Word) (z : Byte) (s : State) : read16Zp pc0 z s = .ok (s.zeroPagePointer z) s := by
  simp only [read16Zp, memRead_zeroPage, Result.bind_ok, State.zeroPagePointer]

/-- What reading an operand changes: nothing outside what bus reads do. -/
theorem readSource_ok {pc0 : Word} {src : Source} {s t : State} {r : Operated} (h : readSource pc0 src s = .ok r t) :
    SameCpu s t ∧ SameMemory s t ∧ t.cart = s.cart ∧ (s.memoryWf → t.memoryWf) ∧ (s.ppuWf → t.ppuWf) := by
  cases src with
  | imm b => cases h; exact ⟨.refl _, .refl _, rfl, id, id⟩
  | mem m =>
    simp only [readSource] at h
    obtain ⟨r1, s1, h1, h⟩ := Result.bind_eq_ok.mp h
    obtain ⟨b, s2, h2, h⟩ := Result.bind_eq_ok.mp h
    cases h
    obtain ⟨k1, k2, k3, k4, k5⟩ := resolve_ok h1
    exact ⟨k1.trans (memRead_sameCpu h2), k2.trans (memRead_sameMemory h2), (memRead_cart h2).trans k3,
      fun w => memRead_memoryWf h2 (k4 w), fun w => memRead_ppuWf h2 (k5 w)⟩

/-! ## What each shape has done when it answers a next state -/

theorem runImplied_next {i : Instr} {effect : State → State} {s t : State} (h : runImplied i effect s = .next t) :
    t = charge i false 0 (effect s) := by cases h; rfl

theorem runStack_next {i : Instr} {effect : Word → State → Result Unit} {s t : State}
    (h : runStack i effect s = .next t) : ∃ s1, effect (startPc i s) s = .ok () s1 ∧ t = charge i false 0 s1 := by
  obtain ⟨_, s1, h1, h2⟩ := Result.bind_eq_ok.mp (Result.toOutcome_eq_next.mp h)
  cases h2; exact ⟨s1, h1, rfl⟩

theorem runRead_next {i : Instr} {src : Source} {effect : Byte → State → State} {s t : State}
    (h : runRead i src effect s = .next t) :
    ∃ r s1, readSource (startPc i s) src s = .ok r s1 ∧ t = charge i r.crossed 0 (effect r.value s1) := by
  obtain ⟨r, s1, h1, h2⟩ := Result.bind_eq_ok.mp (Result.toOutcome_eq_next.mp h)
  cases h2; exact ⟨r, s1, h1, rfl⟩

theorem runStore_next {i : Instr} {m : MemOperand} {value : State → Byte} {s t : State}
    (h : runStore i m value s = .next t) :
    ∃ r s1 s2, resolve (startPc i s) m s = .ok r s1 ∧ memWrite (startPc i s) r.ea (value s1) s1 = .ok () s2 ∧
      t = charge i r.crossed 0 s2 := by
  obtain ⟨r, s1, h1, k1⟩ := Result.bind_eq_ok.mp (Result.toOutcome_eq_next.mp h)
  obtain ⟨_, s2, h2, k2⟩ := Result.bind_eq_ok.mp k1
  cases k2; exact ⟨r, s1, s2, h1, h2, rfl⟩

theorem runRmw_acc {i : Instr} {op : RmwOp} {s t : State} (h : runRmw i .acc op s = .next t) :
    t = charge i false 0 (op.after (op.value s.a s) { op.before s.a s with a := op.value s.a s }) := by cases h; rfl

theorem runRmw_next {i : Instr} {m : MemOperand} {op : RmwOp} {s t : State} (h : runRmw i (.mem m) op s = .next t) :
    ∃ r s1 b s2 s3, resolve (startPc i s) m s = .ok r s1 ∧ memRead (startPc i s) r.ea s1 = .ok b s2 ∧
      memWrite (startPc i s) r.ea (op.value b s2) (op.before b s2) = .ok () s3 ∧
      t = charge i r.crossed 0 (op.after (op.value b s2) s3) := by
  obtain ⟨r, s1, h1, k1⟩ := Result.bind_eq_ok.mp (Result.toOutcome_eq_next.mp h)
  obtain ⟨b, s2, h2, k2⟩ := Result.bind_eq_ok.mp k1
  obtain ⟨_, s3, h3, k3⟩ := Result.bind_eq_ok.mp k2
  cases k3; exact ⟨r, s1, b, s2, s3, h1, h2, h3, rfl⟩

theorem runBranch_next {i : Instr} {off : Int} {mask : Byte} {want : Bool} {s t : State}
    (h : runBranch i off mask want s = .next t) : ∃ extra pc, t = charge i false extra { s with pc := pc } := by
  simp only [runBranch] at h
  split at h <;> cases h
  · exact ⟨_, _, rfl⟩
  · exact ⟨0, s.pc, rfl⟩

theorem runJump_next {i : Instr} {m : MemOperand} {s t : State} (h : runJump i m s = .next t) :
    ∃ r s1, resolve (startPc i s) m s = .ok r s1 ∧ t = charge i r.crossed 0 { s1 with pc := r.ea } := by
  obtain ⟨r, s1, h1, h2⟩ := Result.bind_eq_ok.mp (Result.toOutcome_eq_next.mp h)
  cases h2; exact ⟨r, s1, h1, rfl⟩

theorem runSkip_next {i : Instr} {m : MemOperand} {s t : State} (h : runSkip i m s = .next t) :
    ∃ r s1, resolve (startPc i s) m s = .ok r s1 ∧ t = charge i r.crossed 0 s1 := by
  obtain ⟨r, s1, h1, h2⟩ := Result.bind_eq_ok.mp (Result.toOutcome_eq_next.mp h)
  cases h2; exact ⟨r, s1, h1, rfl⟩

/-! ## What any instruction has done when it answers a next state -/

/-- The states bus reads alone can lead to: the CPU, the cartridge and every byte of memory are as before. -/
structure ReadsOnly (s t : State) : Prop where
  cpu : SameCpu s t
  memory : SameMemory s t
  cart : t.cart = s.cart
  memoryWf : s.memoryWf → t.memoryWf
  ppuWf : s.ppuWf → t.ppuWf

theorem ReadsOnly.refl (s : State) : ReadsOnly s s := ⟨.refl s, .refl s, rfl, id, id⟩

theorem ReadsOnly.trans {s t u : State} (h : ReadsOnly s t) (k : ReadsOnly t u) : ReadsOnly s u :=
  ⟨h.cpu.trans k.cpu, h.memory.trans k.memory, k.cart.trans h.cart, fun w => k.memoryWf (h.memoryWf w),
    fun w => k.ppuWf (h.ppuWf w)⟩

theorem ReadsOnly.of_resolve {pc0 : Word} {m : MemOperand} {s t : State} {r : Resolved}
    (h : resolve pc0 m s = .ok r t) : ReadsOnly s t :=
  have k := resolve_ok h
  ⟨k.1, k.2.1, k.2.2.1, k.2.2.2.1, k.2.2.2.2⟩

theorem ReadsOnly.of_memRead {pc0 a : Word} {s t : State} {b : Byte} (h : memRead pc0 a s = .ok b t) : ReadsOnly s t :=
  ⟨memRead_sameCpu h, memRead_sameMemory h, memRead_cart h, memRead_memoryWf h, memRead_ppuWf h⟩

theorem ReadsOnly.of_readSource {pc0 : Word} {src : Source} {s t : State} {r : Operated}
    (h : readSource pc0 src s = .ok r t) : ReadsOnly s t :=
  have k := readSource_ok h
  ⟨k.1, k.2.1, k.2.2.1, k.2.2.2.1, k.2.2.2.2⟩

/-- What a handler has done, apart from the cycles charged, when it answers a next state: `t` is that state before the
charge, `u` the one the operand's reads leave. -/
def Handler.Did (h : Handler) (i : Instr) (s t : State) : Prop :=
  match h with
  | .implied effect => t = effect s
  | .stack effect => effect (startPc i s) s = .ok () t
  | .read effect => ∃ b u, ReadsOnly s u ∧ t = effect b u
  | .store value => ∃ m r u, i.operand = .mem m ∧ resolve (startPc i s) m s = .ok r u ∧
      memWrite (startPc i s) r.ea (value u) u = .ok () t
  | .rmw op =>
    (i.operand = .accumulator ∧ t = op.after (op.value s.a s) { op.before s.a s with a := op.value s.a s }) ∨
    ∃ m r v b u w, i.operand = .mem m ∧ resolve (startPc i s) m s = .ok r v ∧
      memRead (startPc i s) r.ea v = .ok b u ∧
      memWrite (startPc i s) r.ea (op.value b u) (op.before b u) = .ok () w ∧ t = op.after (op.value b u) w
  | .branch _ _ => ∃ pc, t = { s with pc := pc }
  | .jump => ∃ u pc, ReadsOnly s u ∧ t = { u with pc := pc }
  | .call => ∃ addr, i.operand = .mem (.absolute addr) ∧ jsrEffect addr (startPc i s) s = .ok () t
  | .nop => ReadsOnly s t

/-- Whether a handler is a branch's. -/
def Handler.isBranch : Handler → Bool
  | .branch _ _ => true
  | _ => false

/-- A memory operand with an effective address resolves to it and changes nothing (rules R185 to R191). -/
theorem resolve_of_dataAddress {pc0 : Word} {m : MemOperand} {s : State} {r : Resolved} (h : dataAddress m s = some r) :
    resolve pc0 m s = .ok r s := by
  cases m <;> simp only [dataAddress, Option.some.injEq, reduceCtorEq] at h <;> subst h <;>
    simp only [resolve, read16Zp_eq, Result.bind_ok]

/-- The page-cross bit a resolved memory operand comes with (rule R193). -/
theorem resolve_crossed {i : Instr} {m : MemOperand} {pc0 : Word} {s t : State} {r : Resolved} (ho : i.operand = .mem m)
    (h : resolve pc0 m s = .ok r t) : r.crossed = operandCrosses i s := by
  unfold operandCrosses operandAddress
  rw [ho]
  cases hd : dataAddress m s with
  | some r' => rw [resolve_of_dataAddress hd] at h; cases h; simp only [hd]
  | none =>
    cases m <;> simp only [dataAddress, reduceCtorEq] at hd
    obtain ⟨_, _, _, h⟩ := Result.bind_eq_ok.mp h
    obtain ⟨_, _, _, h⟩ := Result.bind_eq_ok.mp h
    cases h; simp only [dataAddress]

/-- The page-cross bit an operand that is read comes with. -/
theorem readSource_crossed {i : Instr} {m : MemOperand} {pc0 : Word} {s t : State} {r : Operated}
    (ho : i.operand = .mem m) (h : readSource pc0 (.mem m) s = .ok r t) : r.crossed = operandCrosses i s := by
  obtain ⟨r1, s1, h1, h⟩ := Result.bind_eq_ok.mp h
  obtain ⟨b, s2, h2, h⟩ := Result.bind_eq_ok.mp h
  cases h; exact resolve_crossed ho h1

/-- Every instruction, once: what its handler has done, and the cycles charged (rules R194, R195, R280); a branch's
extra is `runBranch`'s. -/
theorem exec_next {i : Instr} {s t : State} (h : exec i s = .next t) :
    ∃ t1 extra, (handlerOf i.mnemonic).Did i s t1 ∧ t = charge i (operandCrosses i s) extra t1 ∧ extra ≤ 2 ∧
      (extra ≠ 0 → (handlerOf i.mnemonic).isBranch = true) := by
  rw [exec_eq_perform, perform] at h
  have zero : ∀ {b : Bool}, (0 : Nat) ≠ 0 → b = true := fun hne => absurd rfl hne
  have uncrossed : operandAddress i s = none → operandCrosses i s = false := fun k => by rw [operandCrosses, k]
  cases hh : handlerOf i.mnemonic with
  | implied effect =>
    cases ho : i.operand <;> simp only [hh, ho, Handler.run, reduceCtorEq] at h
    rw [uncrossed (by rw [operandAddress, ho])]
    exact ⟨_, 0, rfl, runImplied_next h, Nat.zero_le 2, zero⟩
  | stack effect =>
    cases ho : i.operand <;> simp only [hh, ho, Handler.run, reduceCtorEq] at h
    rw [uncrossed (by rw [operandAddress, ho])]
    obtain ⟨t1, h1, h2⟩ := runStack_next h
    exact ⟨t1, 0, h1, h2, Nat.zero_le 2, zero⟩
  | read effect =>
    cases ho : i.operand <;> simp only [hh, ho, Handler.run, reduceCtorEq] at h <;>
      obtain ⟨r, u, h1, h2⟩ := runRead_next h
    · rw [uncrossed (by rw [operandAddress, ho])]
      cases h1; exact ⟨_, 0, ⟨_, s, .refl s, rfl⟩, h2, Nat.zero_le 2, zero⟩
    · rw [← readSource_crossed ho h1]
      exact ⟨_, 0, ⟨r.value, u, .of_readSource h1, rfl⟩, h2, Nat.zero_le 2, zero⟩
  | store value =>
    cases ho : i.operand <;> simp only [hh, ho, Handler.run, reduceCtorEq] at h
    obtain ⟨r, u, t1, h1, h2, h3⟩ := runStore_next h
    rw [← resolve_crossed ho h1]
    exact ⟨t1, 0, ⟨_, r, u, ho, h1, h2⟩, h3, Nat.zero_le 2, zero⟩
  | rmw op =>
    cases ho : i.operand <;> simp only [hh, ho, Handler.run, reduceCtorEq] at h
    · rw [uncrossed (by rw [operandAddress, ho])]
      exact ⟨_, 0, .inl ⟨ho, rfl⟩, runRmw_acc h, Nat.zero_le 2, zero⟩
    · obtain ⟨r, v, b, u, w, h1, h2, h3, h4⟩ := runRmw_next h
      rw [← resolve_crossed ho h1]
      exact ⟨_, 0, .inr ⟨_, r, v, b, u, w, ho, h1, h2, h3, rfl⟩, h4, Nat.zero_le 2, zero⟩
  | branch mask want =>
    cases ho : i.operand <;> simp only [hh, ho, Handler.run, runBranch, reduceCtorEq] at h
    rw [uncrossed (by rw [operandAddress, ho])]
    split at h <;> cases h
    · exact ⟨_, _, ⟨_, rfl⟩, rfl, by split <;> decide, fun _ => rfl⟩
    · exact ⟨_, 0, ⟨s.pc, rfl⟩, rfl, Nat.zero_le 2, zero⟩
  | jump =>
    cases ho : i.operand <;> simp only [hh, ho, Handler.run, reduceCtorEq] at h
    obtain ⟨r, u, h1, h2⟩ := runJump_next h
    rw [← resolve_crossed ho h1]
    exact ⟨_, 0, ⟨u, _, .of_resolve h1, rfl⟩, h2, Nat.zero_le 2, zero⟩
  | call =>
    cases ho : i.operand with
    | mem m =>
      cases m <;> simp only [hh, ho, Handler.run, reduceCtorEq] at h
      obtain ⟨t1, h1, h2⟩ := runStack_next h
      have k : operandCrosses i s = false := by simp only [operandCrosses, operandAddress, ho, dataAddress]
      rw [k]
      exact ⟨t1, 0, ⟨_, ho, h1⟩, h2, Nat.zero_le 2, zero⟩
    | implied => simp only [hh, ho, Handler.run, reduceCtorEq] at h
    | accumulator => simp only [hh, ho, Handler.run, reduceCtorEq] at h
    | immediate b => simp only [hh, ho, Handler.run, reduceCtorEq] at h
    | relative off => simp only [hh, ho, Handler.run, reduceCtorEq] at h
  | nop =>
    cases ho : i.operand <;> simp only [hh, ho, Handler.run, reduceCtorEq] at h
    · rw [uncrossed (by rw [operandAddress, ho])]
      exact ⟨s, 0, .refl s, runImplied_next h, Nat.zero_le 2, zero⟩
    · rw [uncrossed (by rw [operandAddress, ho])]
      exact ⟨s, 0, .refl s, runImplied_next h, Nat.zero_le 2, zero⟩
    · obtain ⟨r, u, h1, h2⟩ := runSkip_next h
      rw [← resolve_crossed ho h1]
      exact ⟨u, 0, .of_resolve h1, h2, Nat.zero_le 2, zero⟩

/-! ## Interrupt entry and return -/

/-- Entering an interrupt through a readable vector never faults (60_exceptions.md rule R352). -/
theorem enterInterrupt_eq {pc0 ret vector : Word} {b : Byte} {s : State} {c : Cartridge} (hc : s.cart = some c)
    (h : 0x8000 ≤ vector.toNat) (h' : vector.toNat < 0xFFFF) :
    enterInterrupt pc0 ret b vector s =
      .ok () { (((s.pushed (highByte ret)).pushed (lowByte ret)).pushed b).setFlag maskI true with
        pc := wordOf (c.prg.read (prgIndex c.prgSize vector)) (c.prg.read (prgIndex c.prgSize (vector + 1))) } := by
  unfold enterInterrupt
  simp only [push16_eq, push_eq, Result.bind_ok]
  rw [read16_prg h h' (c := c) (by simpa [State.pushed] using hc)]
  rfl

/-- Returning from an interrupt never faults (rule R293). -/
theorem returnFromInterrupt_eq (pc0 : Word) (s : State) :
    returnFromInterrupt pc0 s =
      .ok () { s with
        p := pulledP (s.stackByte 1), pc := wordOf (s.stackByte 2) (s.stackByte 3), sp := s.sp + 3 } := by
  have e : s.sp + 1 + 2 = s.sp + 3 := by rw [BitVec.add_assoc]; rfl
  have e1 : s.sp + 1 + BitVec.ofNat 8 1 = s.sp + BitVec.ofNat 8 2 := by rw [BitVec.add_assoc]; rfl
  have e2 : s.sp + 1 + BitVec.ofNat 8 2 = s.sp + BitVec.ofNat 8 3 := by rw [BitVec.add_assoc]; rfl
  simp only [returnFromInterrupt, pull_eq, pull16_eq, Result.bind_ok, State.stackByte, e, e1, e2]

end Sys2Proof.Machine
end

