-- ==== Sys2Proof/Laws/Step.lean ====
section
/-! SUPPORT. What a step is made of: the fetch, the service of an interrupt, and the PPU's ticks behind them. -/

namespace Sys2Proof.Machine

/-! ## The fetch -/

theorem ReadsOnly.of_read16 {pc0 a : Word} {s t : State} {w : Word} (h : read16 pc0 a s = .ok w t) : ReadsOnly s t := by
  simp only [read16] at h
  obtain ⟨lo, s1, h1, h⟩ := Result.bind_eq_ok.mp h
  obtain ⟨hi, s2, h2, h⟩ := Result.bind_eq_ok.mp h
  cases h; exact (ReadsOnly.of_memRead h1).trans (ReadsOnly.of_memRead h2)

theorem read16_fault {pc0 a : Word} {s t : State} {e : FaultRecord} (h : read16 pc0 a s = .fault e t) :
    ReadsOnly s t := by
  simp only [read16] at h
  rcases Result.bind_eq_fault.mp h with h | ⟨lo, s1, h1, h⟩
  · rw [memRead_fault h]; exact .refl s
  · rcases Result.bind_eq_fault.mp h with h | ⟨hi, s2, h2, h⟩
    · rw [memRead_fault h]; exact .of_memRead h1
    · cases h

/-- Setting PC commutes with reading. -/
theorem ReadsOnly.setPc {s t : State} (h : ReadsOnly s t) (pc : Word) :
    ReadsOnly { s with pc := pc } { t with pc := pc } :=
  ⟨⟨h.cpu.a, h.cpu.x, h.cpu.y, h.cpu.sp, h.cpu.p, rfl, h.cpu.cyc, h.cpu.irql, h.cpu.fault, h.cpu.params⟩, h.memory,
    h.cart, h.memoryWf, h.ppuWf⟩

/-- Every instruction a form makes has the form's size (30_encoding.md rule R151). -/
def FormSized : Form → Prop
  | .implied i => i.size = 1
  | .immediate f => ∀ b, (f b).size = 2
  | .unread f => ∀ b, (f b).size = 2
  | .byte f => ∀ b, (f b).size = 2
  | .relative f => ∀ off, (f off).size = 2
  | .word f => ∀ w, (f w).size = 3

/-- A list of slots whose forms are sized. -/
def AllSized : List Slot → Prop
  | [] => True
  | slot :: rest => FormSized slot.form ∧ AllSized rest

theorem AllSized.append : ∀ {l m : List Slot}, AllSized l → AllSized m → AllSized (l ++ m)
  | [], _, _, hm => hm
  | _ :: _, _, hl, hm => ⟨hl.1, hl.2.append hm⟩

theorem AllSized.of_mem {l : List Slot} (h : AllSized l) {slot : Slot} (k : slot ∈ l) : FormSized slot.form := by
  induction l with
  | nil => cases k
  | cons s l ih =>
    rcases List.mem_cons.mp k with rfl | k
    · exact h.1
    · exact ih h.2 k

theorem opcodeMap_sized : AllSized opcodeMap := by
  unfold opcodeMap
  repeat' apply AllSized.append
  all_goals repeat' first | exact trivial | rfl | exact fun _ => rfl | refine And.intro ?_ ?_

theorem lookup_sized {extraNops : Bool} {b : Byte} {form : Form} (h : lookup extraNops b = .ok form) : FormSized form := by
  unfold lookup at h
  split at h
  · cases h
  · rename_i slot hs
    split at h <;> cases h
    exact opcodeMap_sized.of_mem (List.mem_of_find?_eq_some hs)

/-- The operand fetch reads, and leaves PC behind the instruction. -/
theorem fetchOperand_ok {pc0 : Word} {form : Form} {s t : State} {i : Instr} (hf : FormSized form)
    (h : fetchOperand pc0 form s = .ok i t) :
    ∃ pc, ReadsOnly { s with pc := pc } t ∧ pc + 1 = s.pc + BitVec.ofNat 16 i.size := by
  cases form with
  | implied j => cases h; exact ⟨s.pc, .refl s, by rw [show i.size = 1 from hf]; rfl⟩
  | unread f =>
    cases h
    exact ⟨s.pc + 1, .refl _, by rw [hf]; exact BitVec.add_assoc _ _ _⟩
  | immediate f =>
    obtain ⟨b, u, h1, h2⟩ := Result.bind_eq_ok.mp h
    cases h2
    exact ⟨s.pc + 1, .of_memRead h1, by rw [hf]; exact BitVec.add_assoc _ _ _⟩
  | byte f =>
    obtain ⟨b, u, h1, h2⟩ := Result.bind_eq_ok.mp h
    cases h2
    have k := ReadsOnly.of_memRead h1
    refine ⟨u.pc + 1, k.setPc _, ?_⟩
    rw [hf, k.cpu.pc]; exact BitVec.add_assoc _ _ _
  | relative f =>
    obtain ⟨b, u, h1, h2⟩ := Result.bind_eq_ok.mp h
    cases h2
    have k := ReadsOnly.of_memRead h1
    refine ⟨u.pc + 1, k.setPc _, ?_⟩
    rw [hf, k.cpu.pc]; exact BitVec.add_assoc _ _ _
  | word f =>
    obtain ⟨w, u, h1, h2⟩ := Result.bind_eq_ok.mp h
    cases h2
    have k := ReadsOnly.of_read16 h1
    refine ⟨u.pc + 2, k.setPc _, ?_⟩
    rw [hf, k.cpu.pc]; exact BitVec.add_assoc _ _ _

/-- The fetch reads, and leaves PC behind the instruction (40_addressing.md rule R180). -/
theorem fetchInstr_ok {s t : State} {i : Instr} (h : fetchInstr s = .ok i t) :
    ∃ pc, ReadsOnly { s with pc := pc } t ∧ pc = s.pc + BitVec.ofNat 16 i.size := by
  obtain ⟨b, u, h1, h2⟩ := Result.bind_eq_ok.mp h
  split at h2
  · cases h2
  · rename_i form hl
    obtain ⟨pc, k1, k2⟩ := fetchOperand_ok (lookup_sized hl) h2
    have k := ReadsOnly.of_memRead h1
    refine ⟨pc, (k.setPc pc).trans k1, ?_⟩
    have e : (u.advancePc 1).pc = s.pc + 1 := congrArg (· + 1) k.cpu.pc
    rw [e, BitVec.add_assoc, BitVec.add_comm 1, ← BitVec.add_assoc] at k2
    have := congrArg (· - 1) k2
    simpa only [BitVec.add_sub_cancel] using this

/-! ## Interrupt service -/

/-- What taking an interrupt changes (60_exceptions.md rule R352): three bytes of the stack page, S, I and PC. -/
theorem enterInterrupt_ok {pc0 ret vector : Word} {b : Byte} {s t : State}
    (h : enterInterrupt pc0 ret b vector s = .ok () t) :
    ∃ u pc, ReadsOnly ((((s.pushed (highByte ret)).pushed (lowByte ret)).pushed b).setFlag maskI true) u ∧
      t = { u with pc := pc } := by
  simp only [enterInterrupt, push16_eq, push_eq, Result.bind_ok] at h
  obtain ⟨w, u, h1, h2⟩ := Result.bind_eq_ok.mp h
  cases h2; exact ⟨u, w, .of_read16 h1, rfl⟩

/-- The service of NMI or IRQ, where it answers a next state. -/
theorem serviceInterrupt_ok {vector : Word} {s t : State} (h : serviceInterrupt vector s = .ok () t) :
    ∃ u pc, ReadsOnly ((((s.pushed (highByte s.pc)).pushed (lowByte s.pc)).pushed
      (pushedByInterrupt s.p)).setFlag maskI true) u ∧ t = endService { u with pc := pc } := by
  obtain ⟨_, u, h1, h2⟩ := Result.bind_eq_ok.mp h
  cases h2
  obtain ⟨v, pc, k, rfl⟩ := enterInterrupt_ok h1
  exact ⟨v, pc, k, rfl⟩

/-- The service of Reset, where it answers a next state (rule R353). -/
theorem serviceReset_ok {s t : State} (h : serviceReset s = .ok () t) :
    ∃ u pc, ReadsOnly { s.setFlag maskI true with sp := s.sp - 3 } u ∧ t = endService { u with pc := pc } := by
  obtain ⟨w, u, h1, h2⟩ := Result.bind_eq_ok.mp h
  cases h2; exact ⟨u, w, .of_read16 h1, rfl⟩

/-! ## The step -/

/-- After a fault no step exists (60_exceptions.md rule R340). -/
theorem step_stuck {s : State} {r : FaultRecord} (h : s.fault = some r) : step s = .fault (.stopped r) := by
  rw [step, h]

/-- Without a cartridge the step is refused (rule R372, D41). -/
theorem step_noCartridge {s : State} (h : s.fault = none) (h' : s.cart = none) : step s = .refused .noCartridge := by
  rw [step, h, h']

/-- How a step came to its next state: a running machine serviced an interrupt or executed the instruction it fetched,
and the PPU followed (rule R372). -/
theorem step_next {s t : State} (h : step s = .next t) :
    s.fault = none ∧ (∃ c, s.cart = some c) ∧ ∃ s1, t = afterCpu s s1 ∧
      ((∃ kind, arbitrate s = some kind ∧ service kind s = .ok () s1) ∨
        arbitrate s = none ∧ ∃ i u, fetchInstr s = .ok i u ∧ exec i u = .next s1) := by
  unfold step at h
  split at h
  · cases h
  · rename_i hf
    split at h
    · cases h
    · rename_i c hc
      split at h <;> cases h
      rename_i s1 hs
      refine ⟨hf, ⟨c, hc⟩, s1, rfl, ?_⟩
      unfold cpuStep at hs
      split at hs
      · rename_i kind ha; exact .inl ⟨kind, ha, Result.toOutcome_eq_next.mp hs⟩
      · rename_i ha
        unfold execFetched at hs
        split at hs
        · rename_i i u hi; exact .inr ⟨ha, i, u, hi, hs⟩
        · cases hs

/-! ## The ticks -/

/-- What ticks leave alone: everything but the PPU's counters, status and request, and the model's draw counter. -/
theorem ppuTicks_eq (n : Nat) (s : State) : ∃ (dot scanline : Nat) (status : Byte) (req : Bool) (draws : Nat),
    ppuTicks n s = { s with
      ppu := { s.ppu with dot := dot, scanline := scanline, status := status, nmiReq := req }, draws := draws } := by
  induction n generalizing s with
  | zero => exact ⟨s.ppu.dot, s.ppu.scanline, s.ppu.status, s.ppu.nmiReq, s.draws, rfl⟩
  | succ n ih =>
    have tick : ∃ (dot scanline : Nat) (status : Byte) (req : Bool) (draws : Nat), ppuTick s = { s with
        ppu := { s.ppu with dot := dot, scanline := scanline, status := status, nmiReq := req }, draws := draws } := by
      unfold ppuTick Ppu.events Ppu.advance Ppu.vblankStart Ppu.preRenderStart drawSpriteFlags
      repeat' split
      all_goals exact ⟨_, _, _, _, _, rfl⟩
    obtain ⟨d, l, st, r, dr, e⟩ := tick
    obtain ⟨d', l', st', r', dr', e'⟩ := ih (ppuTick s)
    exact ⟨d', l', st', r', dr', by rw [ppuTicks, e', e]⟩

/-- What follows the CPU's part of a step leaves the CPU, its memories and the cartridge alone, and no NMI request. -/
theorem afterCpu_eq (before s : State) : ∃ (dot scanline : Nat) (status : Byte) (draws : Nat) (irql : Option Interrupt),
    afterCpu before s = { s with
      ppu := { s.ppu with dot := dot, scanline := scanline, status := status, nmiReq := false }
      draws := draws
      irql := irql } := by
  unfold afterCpu latchNmi
  obtain ⟨d, l, st, r, dr, e⟩ := ppuTicks_eq (3 * cyclesElapsed before s) s
  rw [e]
  cases r
  · exact ⟨d, l, st, dr, s.irql, rfl⟩
  · unfold State.raise
    simp only [if_true]
    split
    · exact ⟨d, l, st, dr, some .nmi, rfl⟩
    · exact ⟨d, l, st, dr, s.irql, rfl⟩

end Sys2Proof.Machine
end

