-- ==== Sys2Proof/Laws/Faults.lean ====
section
/-! SUPPORT. How an instruction or a step stops: bus faults that name the PC it began at, and the decode fault of the
fetch; no refusal (60_exceptions.md rules R340 to R345). -/

namespace Sys2Proof.Machine

/-- Every fault of a result is a bus fault that names `pc0`. -/
structure FaultsAt {α : Type} (pc0 : Word) (r : Result α) : Prop where
  names : ∀ e s, r = .fault e s → ∃ kind a, e = .bus kind a pc0

theorem FaultsAt.ok {α : Type} (pc0 : Word) (a : α) (s : State) : FaultsAt pc0 (Result.ok a s) := ⟨fun _ _ h => nomatch h⟩

theorem FaultsAt.bus {α : Type} (pc0 : Word) (kind : Access) (a : Word) (s : State) :
    FaultsAt pc0 (Result.fault (.bus kind a pc0) s : Result α) := ⟨fun e t h => by cases h; exact ⟨kind, a, rfl⟩⟩

theorem FaultsAt.bind {α β : Type} {pc0 : Word} {r : Result α} {k : α → State → Result β} (h : FaultsAt pc0 r)
    (h' : ∀ a s, FaultsAt pc0 (k a s)) : FaultsAt pc0 (r.bind k) := by
  refine ⟨fun e t ht => ?_⟩
  rcases Result.bind_eq_fault.mp ht with ht | ⟨a, s, -, ht⟩
  · exact h.names e t ht
  · exact (h' a s).names e t ht

theorem ppuRead_faultsAt (pc0 : Word) (a : BitVec 14) (s : State) : FaultsAt pc0 (ppuRead pc0 a s) := by
  unfold ppuRead; split
  · exact .ok ..
  · exact .bus ..

theorem readPort_faultsAt (pc0 : Word) (port : PpuPort) (s : State) : FaultsAt pc0 (readPort pc0 port s) := by
  have bus : FaultsAt pc0 (readOpenBus s) := by unfold readOpenBus; split <;> exact .ok ..
  cases port with
  | ctrl => exact bus
  | mask => exact bus
  | status => exact .ok ..
  | oamAddr => exact bus
  | oamData => exact .ok ..
  | scroll => exact bus
  | addr => exact bus
  | data =>
    refine .bind (ppuRead_faultsAt ..) fun b s => ?_
    split
    · exact .ok ..
    · exact .bind (ppuRead_faultsAt ..) fun _ _ => .ok ..

theorem writePort_faultsAt (pc0 : Word) (port : PpuPort) (d : Byte) (s : State) :
    FaultsAt pc0 (writePort pc0 port d s) := by
  cases port with
  | data =>
    refine .bind ?_ fun _ _ => .ok ..
    unfold ppuWrite chrWrite
    repeat' split
    all_goals first | exact .ok .. | exact .bus ..
  | ctrl => exact .ok ..
  | mask => exact .ok ..
  | status => exact .ok ..
  | oamAddr => exact .ok ..
  | oamData => exact .ok ..
  | scroll => exact .ok ..
  | addr => exact .ok ..

theorem memRead_faultsAt (pc0 a : Word) (s : State) : FaultsAt pc0 (memRead pc0 a s) := by
  unfold memRead
  repeat' split
  all_goals first | exact .ok .. | exact .bus .. | exact readPort_faultsAt ..

theorem memWrite_faultsAt (pc0 a : Word) (d : Byte) (s : State) : FaultsAt pc0 (memWrite pc0 a d s) := by
  unfold memWrite
  repeat' split
  all_goals first | exact .ok .. | exact .bus .. | exact writePort_faultsAt ..

/-- A read that faults records a read (rule R342). -/
theorem memRead_faultKind {pc0 a : Word} {s t : State} {e : FaultRecord} (h : memRead pc0 a s = .fault e t) :
    ∃ ea, e = .bus .read ea pc0 := by
  have ppu : ∀ {a : BitVec 14} {s t : State} {e : FaultRecord}, ppuRead pc0 a s = .fault e t → ∃ ea, e = .bus .read ea pc0 := by
    intro a s t e h
    unfold ppuRead at h
    split at h <;> cases h
    exact ⟨_, rfl⟩
  have bus : ∀ {s t : State} {e : FaultRecord}, readOpenBus s ≠ .fault e t := by
    intro s t e h; unfold readOpenBus at h; split at h <;> cases h
  unfold memRead at h
  split at h
  · cases h
  split at h
  · cases hp : portOf a <;> rw [hp] at h
    case data =>
      rcases Result.bind_eq_fault.mp h with h | ⟨b, u, -, h⟩
      · exact ppu h
      · split at h
        · cases h
        · rcases Result.bind_eq_fault.mp h with h | ⟨_, _, -, h⟩
          · exact ppu h
          · cases h
    all_goals first | exact absurd h bus | cases h
  split at h
  · cases h; exact ⟨_, rfl⟩
  · split at h <;> cases h
    exact ⟨_, rfl⟩

/-- A write that faults records a write (rule R342). -/
theorem memWrite_faultKind {pc0 a : Word} {d : Byte} {s t : State} {e : FaultRecord} (h : memWrite pc0 a d s = .fault e t) :
    ∃ ea, e = .bus .write ea pc0 := by
  unfold memWrite at h
  split at h
  · cases h
  split at h
  · cases hp : portOf a <;> rw [hp] at h
    case data =>
      rcases Result.bind_eq_fault.mp h with h | ⟨_, _, -, h⟩
      · unfold ppuWrite chrWrite at h
        repeat' split at h
        all_goals cases h
        all_goals exact ⟨_, rfl⟩
      · cases h
    all_goals cases h
  · cases h; exact ⟨_, rfl⟩

theorem read16_faultsAt (pc0 a : Word) (s : State) : FaultsAt pc0 (read16 pc0 a s) :=
  .bind (memRead_faultsAt ..) fun _ _ => .bind (memRead_faultsAt ..) fun _ _ => .ok ..

theorem resolve_faultsAt (pc0 : Word) (m : MemOperand) (s : State) : FaultsAt pc0 (resolve pc0 m s) := by
  cases m with
  | indirect ptr => exact .bind (memRead_faultsAt ..) fun _ _ => .bind (memRead_faultsAt ..) fun _ _ => .ok ..
  | indirectX zp => simp only [resolve, read16Zp_eq, Result.bind_ok]; exact .ok ..
  | indirectY zp => simp only [resolve, read16Zp_eq, Result.bind_ok]; exact .ok ..
  | zeroPage zp => exact .ok ..
  | zeroPageX zp => exact .ok ..
  | zeroPageY zp => exact .ok ..
  | absolute addr => exact .ok ..
  | absoluteX addr => exact .ok ..
  | absoluteY addr => exact .ok ..

theorem readSource_faultsAt (pc0 : Word) (src : Source) (s : State) : FaultsAt pc0 (readSource pc0 src s) := by
  cases src with
  | imm b => exact .ok ..
  | mem m => exact .bind (resolve_faultsAt ..) fun _ _ => .bind (memRead_faultsAt ..) fun _ _ => .ok ..

theorem enterInterrupt_faultsAt (pc0 ret vector : Word) (b : Byte) (s : State) :
    FaultsAt pc0 (enterInterrupt pc0 ret b vector s) := by
  simp only [enterInterrupt, push16_eq, push_eq, Result.bind_ok]
  exact .bind (read16_faultsAt ..) fun _ _ => .ok ..

theorem service_faultsAt (kind : Interrupt) (s : State) : FaultsAt s.pc (service kind s) := by
  cases kind with
  | irq => exact .bind (enterInterrupt_faultsAt ..) fun _ _ => .ok ..
  | nmi => exact .bind (enterInterrupt_faultsAt ..) fun _ _ => .ok ..
  | reset => exact .bind (read16_faultsAt ..) fun _ _ => .ok ..

/-- An outcome that is a next state, or a bus fault that names `pc0` and leaves `FAULT` holding its record. -/
def OutcomeAt (pc0 : Word) (o : Out) : Prop :=
  (∃ t, o = .next t) ∨ ∃ kind a left, o = .fault (.busFault kind a pc0 left) ∧ left.fault = some (.bus kind a pc0)

theorem OutcomeAt.of_result {pc0 : Word} {r : Result Unit} (h : FaultsAt pc0 r) : OutcomeAt pc0 r.toOutcome := by
  cases r with
  | ok _ t => exact .inl ⟨t, rfl⟩
  | fault e t =>
    obtain ⟨kind, a, rfl⟩ := h.names e t rfl
    exact .inr ⟨kind, a, _, rfl, rfl⟩

theorem stack_faultsAt (m : Mnemonic) (effect : Word → State → Result Unit) (h : handlerOf m = .stack effect)
    (pc0 : Word) (s : State) : FaultsAt pc0 (effect pc0 s) := by
  cases m <;> simp only [handlerOf, reduceCtorEq, Handler.stack.injEq] at h <;> subst h
  · simp only [rtsEffect, pull16_eq, Result.bind_ok]; exact .ok ..
  · exact enterInterrupt_faultsAt ..
  · simp only [rtiEffect, returnFromInterrupt_eq]; exact .ok ..
  · simp only [phaEffect, push_eq]; exact .ok ..
  · simp only [phpEffect, push_eq]; exact .ok ..
  · simp only [plaEffect, pull_eq, Result.bind_ok]; exact .ok ..
  · simp only [plpEffect, pull_eq, Result.bind_ok]; exact .ok ..

/-- The modes a handler takes an operand of. -/
def Handler.takes : Handler → Mode → Bool
  | .implied _, mode => mode == .implied
  | .stack _, mode => mode == .implied
  | .read _, mode => mode != .implied && mode != .accumulator && mode != .relative
  | .store _, mode => mode != .implied && mode != .accumulator && mode != .relative && mode != .immediate
  | .rmw _, mode => mode != .implied && mode != .relative && mode != .immediate
  | .branch _ _, mode => mode == .relative
  | .jump, mode => mode == .absolute || mode == .indirect
  | .call, mode => mode == .absolute
  | .nop, mode => mode != .accumulator && mode != .relative

set_option maxRecDepth 10000 in
/-- Every row pairs its mnemonic's handler with a mode it takes (30_encoding.md rule R162). -/
theorem handler_takes (i : Instr) : (handlerOf i.mnemonic).takes i.operand.mode = true := by
  obtain ⟨slot, hs, k⟩ := mem_opcodeMap i
  have h : opcodeMap.all (fun slot => (handlerOf (slotRow slot).1).takes (slotRow slot).2.2.1) = true := rfl
  have := List.all_eq_true.mp h slot hs
  rw [k] at this; exact this

/-- An instruction completes, or stops with a bus fault that names the PC of its opcode fetch; it is never refused. -/
theorem exec_outcome (i : Instr) (s : State) : OutcomeAt (startPc i s) (exec i s) := by
  rw [exec_eq_perform, perform]
  have ht := handler_takes i
  have skip : ∀ {r : Result Resolved} {k : Resolved → State → Result Unit}, FaultsAt (startPc i s) r →
      (∀ a t, FaultsAt (startPc i s) (k a t)) → OutcomeAt (startPc i s) (r.bind k).toOutcome :=
    fun h h' => .of_result (.bind h h')
  cases hh : handlerOf i.mnemonic with
  | implied effect =>
    cases ho : i.operand <;> simp only [hh, ho, Handler.takes, Operand.mode] at ht
    · exact .inl ⟨_, rfl⟩
    all_goals first | contradiction | (rename_i m; cases m <;> contradiction)
  | stack effect =>
    cases ho : i.operand <;> simp only [hh, ho, Handler.takes, Operand.mode] at ht
    · exact .of_result (.bind (stack_faultsAt _ effect hh ..) fun _ _ => .ok ..)
    all_goals first | contradiction | (rename_i m; cases m <;> contradiction)
  | read effect =>
    cases ho : i.operand <;> simp only [hh, ho, Handler.takes, Operand.mode] at ht
    all_goals first
      | contradiction
      | (simp only [Handler.run, runRead]; exact .of_result (.bind (readSource_faultsAt ..) fun _ _ => .ok ..))
  | store value =>
    cases ho : i.operand <;> simp only [hh, ho, Handler.takes, Operand.mode] at ht
    all_goals first
      | contradiction
      | exact skip (resolve_faultsAt ..) fun _ _ => .bind (memWrite_faultsAt ..) fun _ _ => .ok ..
  | rmw op =>
    cases ho : i.operand <;> simp only [hh, ho, Handler.takes, Operand.mode] at ht
    all_goals first
      | contradiction
      | exact .inl ⟨_, rfl⟩
      | exact skip (resolve_faultsAt ..) fun _ _ => .bind (memRead_faultsAt ..) fun _ _ =>
          .bind (memWrite_faultsAt ..) fun _ _ => .ok ..
  | branch mask want =>
    cases ho : i.operand <;> simp only [hh, ho, Handler.takes, Operand.mode] at ht
    case relative off => simp only [Handler.run, runBranch]; split <;> exact .inl ⟨_, rfl⟩
    all_goals first | contradiction | (rename_i m; cases m <;> contradiction)
  | jump =>
    cases ho : i.operand <;> simp only [hh, ho, Handler.takes, Operand.mode] at ht
    all_goals first | contradiction | exact skip (resolve_faultsAt ..) fun _ _ => .ok ..
  | call =>
    cases ho : i.operand with
    | mem m =>
      rw [hh, ho] at ht
      cases m <;> first
        | contradiction
        | (refine .of_result (.bind ?_ fun _ _ => .ok ..)
           simp only [jsrEffect, push16_eq, Result.bind_ok]; exact .ok ..)
    | implied => rw [hh, ho] at ht; contradiction
    | accumulator => rw [hh, ho] at ht; contradiction
    | immediate b => rw [hh, ho] at ht; contradiction
    | relative off => rw [hh, ho] at ht; contradiction
  | nop =>
    cases ho : i.operand <;> simp only [hh, ho, Handler.takes, Operand.mode] at ht
    all_goals first
      | contradiction
      | exact .inl ⟨_, rfl⟩
      | exact skip (resolve_faultsAt ..) fun _ _ => .ok ..

/-- The fetch completes, or stops with a bus fault or a decode fault at the PC it began at. -/
theorem fetchInstr_fault {s t : State} {e : FaultRecord} (h : fetchInstr s = .fault e t) :
    (∃ kind a, e = .bus kind a s.pc) ∨ ∃ opcode, e = .decode opcode s.pc := by
  rcases Result.bind_eq_fault.mp h with h | ⟨b, u, -, h⟩
  · exact .inl ((memRead_faultsAt ..).names _ _ h)
  · split at h
    · cases h; exact .inr ⟨_, rfl⟩
    · rename_i form _
      have k : FaultsAt s.pc (fetchOperand s.pc form (u.advancePc 1)) := by
        cases form with
        | implied j => exact .ok ..
        | unread f => exact .ok ..
        | immediate f => exact .bind (memRead_faultsAt ..) fun _ _ => .ok ..
        | byte f => exact .bind (memRead_faultsAt ..) fun _ _ => .ok ..
        | relative f => exact .bind (memRead_faultsAt ..) fun _ _ => .ok ..
        | word f => exact .bind (read16_faultsAt ..) fun _ _ => .ok ..
      exact .inl (k.names _ _ h)

end Sys2Proof.Machine
end

