-- ==== Sys2Proof/Laws/PerInstr.lean ====
section
/-! SUPPORT. The shape of every instruction's encoding, one lemma per constructor (30_encoding.md rules R150, R151 and
R158). -/

namespace Sys2Proof.Laws.EncodeShape

/-- The encoding has the size its mode gives, 1 to 3 bytes, and starts with the opcode byte; an optional row is flagged
illegal. -/
def Statement (i : Instr) : Prop :=
  (encode i).length = i.size ∧ 1 ≤ i.size ∧ i.size ≤ 3 ∧ (encode i).head? = some i.opcode ∧
    (i.optional = true → i.entry.illegal = true)

/-- The five facts of the shape, as the lemmas below give them. -/
theorem shape {i : Instr} (h1 : (encode i).length = i.size) (h2 : Nat.ble 1 i.size = true)
    (h3 : Nat.ble i.size 3 = true) (h4 : (encode i).head? = some i.opcode)
    (h5 : i.optional = true → i.entry.illegal = true) : Statement i :=
  ⟨h1, Nat.le_of_ble_eq_true h2, Nat.le_of_ble_eq_true h3, h4, h5⟩

theorem brk : Statement .brk := shape rfl rfl rfl rfl (fun h => nomatch h)
theorem oraIndX (zp : Byte) : Statement (.oraIndX zp) := shape rfl rfl rfl rfl (fun h => nomatch h)
theorem sloIndX (zp : Byte) : Statement (.sloIndX zp) := shape rfl rfl rfl rfl (fun h => nomatch h)
theorem nopZp04 (zp : Byte) : Statement (.nopZp04 zp) := shape rfl rfl rfl rfl (fun _ => rfl)
theorem oraZp (zp : Byte) : Statement (.oraZp zp) := shape rfl rfl rfl rfl (fun h => nomatch h)
theorem aslZp (zp : Byte) : Statement (.aslZp zp) := shape rfl rfl rfl rfl (fun h => nomatch h)
theorem sloZp (zp : Byte) : Statement (.sloZp zp) := shape rfl rfl rfl rfl (fun h => nomatch h)
theorem php : Statement .php := shape rfl rfl rfl rfl (fun h => nomatch h)
theorem oraImm (imm : Byte) : Statement (.oraImm imm) := shape rfl rfl rfl rfl (fun h => nomatch h)
theorem aslAcc : Statement .aslAcc := shape rfl rfl rfl rfl (fun h => nomatch h)
theorem nopAbs0C (addr : Word) : Statement (.nopAbs0C addr) := shape rfl rfl rfl rfl (fun _ => rfl)
theorem oraAbs (addr : Word) : Statement (.oraAbs addr) := shape rfl rfl rfl rfl (fun h => nomatch h)
theorem aslAbs (addr : Word) : Statement (.aslAbs addr) := shape rfl rfl rfl rfl (fun h => nomatch h)
theorem sloAbs (addr : Word) : Statement (.sloAbs addr) := shape rfl rfl rfl rfl (fun h => nomatch h)
theorem bpl (off : Int) : Statement (.bpl off) := shape rfl rfl rfl rfl (fun h => nomatch h)
theorem oraIndY (zp : Byte) : Statement (.oraIndY zp) := shape rfl rfl rfl rfl (fun h => nomatch h)
theorem sloIndY (zp : Byte) : Statement (.sloIndY zp) := shape rfl rfl rfl rfl (fun h => nomatch h)
theorem nopZpX14 (zp : Byte) : Statement (.nopZpX14 zp) := shape rfl rfl rfl rfl (fun _ => rfl)
theorem oraZpX (zp : Byte) : Statement (.oraZpX zp) := shape rfl rfl rfl rfl (fun h => nomatch h)
theorem aslZpX (zp : Byte) : Statement (.aslZpX zp) := shape rfl rfl rfl rfl (fun h => nomatch h)
theorem sloZpX (zp : Byte) : Statement (.sloZpX zp) := shape rfl rfl rfl rfl (fun h => nomatch h)
theorem clc : Statement .clc := shape rfl rfl rfl rfl (fun h => nomatch h)
theorem oraAbsY (addr : Word) : Statement (.oraAbsY addr) := shape rfl rfl rfl rfl (fun h => nomatch h)
theorem nopImp1A : Statement .nopImp1A := shape rfl rfl rfl rfl (fun _ => rfl)
theorem sloAbsY (addr : Word) : Statement (.sloAbsY addr) := shape rfl rfl rfl rfl (fun h => nomatch h)
theorem nopAbsX1C (addr : Word) : Statement (.nopAbsX1C addr) := shape rfl rfl rfl rfl (fun _ => rfl)
theorem oraAbsX (addr : Word) : Statement (.oraAbsX addr) := shape rfl rfl rfl rfl (fun h => nomatch h)
theorem aslAbsX (addr : Word) : Statement (.aslAbsX addr) := shape rfl rfl rfl rfl (fun h => nomatch h)
theorem sloAbsX (addr : Word) : Statement (.sloAbsX addr) := shape rfl rfl rfl rfl (fun h => nomatch h)
theorem jsr (addr : Word) : Statement (.jsr addr) := shape rfl rfl rfl rfl (fun h => nomatch h)
theorem andIndX (zp : Byte) : Statement (.andIndX zp) := shape rfl rfl rfl rfl (fun h => nomatch h)
theorem rlaIndX (zp : Byte) : Statement (.rlaIndX zp) := shape rfl rfl rfl rfl (fun h => nomatch h)
theorem bitZp (zp : Byte) : Statement (.bitZp zp) := shape rfl rfl rfl rfl (fun h => nomatch h)
theorem andZp (zp : Byte) : Statement (.andZp zp) := shape rfl rfl rfl rfl (fun h => nomatch h)
theorem rolZp (zp : Byte) : Statement (.rolZp zp) := shape rfl rfl rfl rfl (fun h => nomatch h)
theorem rlaZp (zp : Byte) : Statement (.rlaZp zp) := shape rfl rfl rfl rfl (fun h => nomatch h)
theorem plp : Statement .plp := shape rfl rfl rfl rfl (fun h => nomatch h)
theorem andImm (imm : Byte) : Statement (.andImm imm) := shape rfl rfl rfl rfl (fun h => nomatch h)
theorem rolAcc : Statement .rolAcc := shape rfl rfl rfl rfl (fun h => nomatch h)
theorem bitAbs (addr : Word) : Statement (.bitAbs addr) := shape rfl rfl rfl rfl (fun h => nomatch h)
theorem andAbs (addr : Word) : Statement (.andAbs addr) := shape rfl rfl rfl rfl (fun h => nomatch h)
theorem rolAbs (addr : Word) : Statement (.rolAbs addr) := shape rfl rfl rfl rfl (fun h => nomatch h)
theorem rlaAbs (addr : Word) : Statement (.rlaAbs addr) := shape rfl rfl rfl rfl (fun h => nomatch h)
theorem bmi (off : Int) : Statement (.bmi off) := shape rfl rfl rfl rfl (fun h => nomatch h)
theorem andIndY (zp : Byte) : Statement (.andIndY zp) := shape rfl rfl rfl rfl (fun h => nomatch h)
theorem rlaIndY (zp : Byte) : Statement (.rlaIndY zp) := shape rfl rfl rfl rfl (fun h => nomatch h)
theorem nopZpX34 (zp : Byte) : Statement (.nopZpX34 zp) := shape rfl rfl rfl rfl (fun _ => rfl)
theorem andZpX (zp : Byte) : Statement (.andZpX zp) := shape rfl rfl rfl rfl (fun h => nomatch h)
theorem rolZpX (zp : Byte) : Statement (.rolZpX zp) := shape rfl rfl rfl rfl (fun h => nomatch h)
theorem rlaZpX (zp : Byte) : Statement (.rlaZpX zp) := shape rfl rfl rfl rfl (fun h => nomatch h)
theorem sec : Statement .sec := shape rfl rfl rfl rfl (fun h => nomatch h)
theorem andAbsY (addr : Word) : Statement (.andAbsY addr) := shape rfl rfl rfl rfl (fun h => nomatch h)
theorem nopImp3A : Statement .nopImp3A := shape rfl rfl rfl rfl (fun _ => rfl)
theorem rlaAbsY (addr : Word) : Statement (.rlaAbsY addr) := shape rfl rfl rfl rfl (fun h => nomatch h)
theorem nopAbsX3C (addr : Word) : Statement (.nopAbsX3C addr) := shape rfl rfl rfl rfl (fun _ => rfl)
theorem andAbsX (addr : Word) : Statement (.andAbsX addr) := shape rfl rfl rfl rfl (fun h => nomatch h)
theorem rolAbsX (addr : Word) : Statement (.rolAbsX addr) := shape rfl rfl rfl rfl (fun h => nomatch h)
theorem rlaAbsX (addr : Word) : Statement (.rlaAbsX addr) := shape rfl rfl rfl rfl (fun h => nomatch h)
theorem rti : Statement .rti := shape rfl rfl rfl rfl (fun h => nomatch h)
theorem eorIndX (zp : Byte) : Statement (.eorIndX zp) := shape rfl rfl rfl rfl (fun h => nomatch h)
theorem sreIndX (zp : Byte) : Statement (.sreIndX zp) := shape rfl rfl rfl rfl (fun h => nomatch h)
theorem nopZp44 (zp : Byte) : Statement (.nopZp44 zp) := shape rfl rfl rfl rfl (fun _ => rfl)
theorem eorZp (zp : Byte) : Statement (.eorZp zp) := shape rfl rfl rfl rfl (fun h => nomatch h)
theorem lsrZp (zp : Byte) : Statement (.lsrZp zp) := shape rfl rfl rfl rfl (fun h => nomatch h)
theorem sreZp (zp : Byte) : Statement (.sreZp zp) := shape rfl rfl rfl rfl (fun h => nomatch h)
theorem pha : Statement .pha := shape rfl rfl rfl rfl (fun h => nomatch h)
theorem eorImm (imm : Byte) : Statement (.eorImm imm) := shape rfl rfl rfl rfl (fun h => nomatch h)
theorem lsrAcc : Statement .lsrAcc := shape rfl rfl rfl rfl (fun h => nomatch h)
theorem jmpAbs (addr : Word) : Statement (.jmpAbs addr) := shape rfl rfl rfl rfl (fun h => nomatch h)
theorem eorAbs (addr : Word) : Statement (.eorAbs addr) := shape rfl rfl rfl rfl (fun h => nomatch h)
theorem lsrAbs (addr : Word) : Statement (.lsrAbs addr) := shape rfl rfl rfl rfl (fun h => nomatch h)
theorem sreAbs (addr : Word) : Statement (.sreAbs addr) := shape rfl rfl rfl rfl (fun h => nomatch h)
theorem bvc (off : Int) : Statement (.bvc off) := shape rfl rfl rfl rfl (fun h => nomatch h)
theorem eorIndY (zp : Byte) : Statement (.eorIndY zp) := shape rfl rfl rfl rfl (fun h => nomatch h)
theorem sreIndY (zp : Byte) : Statement (.sreIndY zp) := shape rfl rfl rfl rfl (fun h => nomatch h)
theorem nopZpX54 (zp : Byte) : Statement (.nopZpX54 zp) := shape rfl rfl rfl rfl (fun _ => rfl)
theorem eorZpX (zp : Byte) : Statement (.eorZpX zp) := shape rfl rfl rfl rfl (fun h => nomatch h)
theorem lsrZpX (zp : Byte) : Statement (.lsrZpX zp) := shape rfl rfl rfl rfl (fun h => nomatch h)
theorem sreZpX (zp : Byte) : Statement (.sreZpX zp) := shape rfl rfl rfl rfl (fun h => nomatch h)
theorem cli : Statement .cli := shape rfl rfl rfl rfl (fun h => nomatch h)
theorem eorAbsY (addr : Word) : Statement (.eorAbsY addr) := shape rfl rfl rfl rfl (fun h => nomatch h)
theorem nopImp5A : Statement .nopImp5A := shape rfl rfl rfl rfl (fun _ => rfl)
theorem sreAbsY (addr : Word) : Statement (.sreAbsY addr) := shape rfl rfl rfl rfl (fun h => nomatch h)
theorem nopAbsX5C (addr : Word) : Statement (.nopAbsX5C addr) := shape rfl rfl rfl rfl (fun _ => rfl)
theorem eorAbsX (addr : Word) : Statement (.eorAbsX addr) := shape rfl rfl rfl rfl (fun h => nomatch h)
theorem lsrAbsX (addr : Word) : Statement (.lsrAbsX addr) := shape rfl rfl rfl rfl (fun h => nomatch h)
theorem sreAbsX (addr : Word) : Statement (.sreAbsX addr) := shape rfl rfl rfl rfl (fun h => nomatch h)
theorem rts : Statement .rts := shape rfl rfl rfl rfl (fun h => nomatch h)
theorem adcIndX (zp : Byte) : Statement (.adcIndX zp) := shape rfl rfl rfl rfl (fun h => nomatch h)
theorem rraIndX (zp : Byte) : Statement (.rraIndX zp) := shape rfl rfl rfl rfl (fun h => nomatch h)
theorem nopZp64 (zp : Byte) : Statement (.nopZp64 zp) := shape rfl rfl rfl rfl (fun _ => rfl)
theorem adcZp (zp : Byte) : Statement (.adcZp zp) := shape rfl rfl rfl rfl (fun h => nomatch h)
theorem rorZp (zp : Byte) : Statement (.rorZp zp) := shape rfl rfl rfl rfl (fun h => nomatch h)
theorem rraZp (zp : Byte) : Statement (.rraZp zp) := shape rfl rfl rfl rfl (fun h => nomatch h)
theorem pla : Statement .pla := shape rfl rfl rfl rfl (fun h => nomatch h)
theorem adcImm (imm : Byte) : Statement (.adcImm imm) := shape rfl rfl rfl rfl (fun h => nomatch h)
theorem rorAcc : Statement .rorAcc := shape rfl rfl rfl rfl (fun h => nomatch h)
theorem jmpInd (ptr : Word) : Statement (.jmpInd ptr) := shape rfl rfl rfl rfl (fun h => nomatch h)
theorem adcAbs (addr : Word) : Statement (.adcAbs addr) := shape rfl rfl rfl rfl (fun h => nomatch h)
theorem rorAbs (addr : Word) : Statement (.rorAbs addr) := shape rfl rfl rfl rfl (fun h => nomatch h)
theorem rraAbs (addr : Word) : Statement (.rraAbs addr) := shape rfl rfl rfl rfl (fun h => nomatch h)
theorem bvs (off : Int) : Statement (.bvs off) := shape rfl rfl rfl rfl (fun h => nomatch h)
theorem adcIndY (zp : Byte) : Statement (.adcIndY zp) := shape rfl rfl rfl rfl (fun h => nomatch h)
theorem rraIndY (zp : Byte) : Statement (.rraIndY zp) := shape rfl rfl rfl rfl (fun h => nomatch h)
theorem nopZpX74 (zp : Byte) : Statement (.nopZpX74 zp) := shape rfl rfl rfl rfl (fun _ => rfl)
theorem adcZpX (zp : Byte) : Statement (.adcZpX zp) := shape rfl rfl rfl rfl (fun h => nomatch h)
theorem rorZpX (zp : Byte) : Statement (.rorZpX zp) := shape rfl rfl rfl rfl (fun h => nomatch h)
theorem rraZpX (zp : Byte) : Statement (.rraZpX zp) := shape rfl rfl rfl rfl (fun h => nomatch h)
theorem sei : Statement .sei := shape rfl rfl rfl rfl (fun h => nomatch h)
theorem adcAbsY (addr : Word) : Statement (.adcAbsY addr) := shape rfl rfl rfl rfl (fun h => nomatch h)
theorem nopImp7A : Statement .nopImp7A := shape rfl rfl rfl rfl (fun _ => rfl)
theorem rraAbsY (addr : Word) : Statement (.rraAbsY addr) := shape rfl rfl rfl rfl (fun h => nomatch h)
theorem nopAbsX7C (addr : Word) : Statement (.nopAbsX7C addr) := shape rfl rfl rfl rfl (fun _ => rfl)
theorem adcAbsX (addr : Word) : Statement (.adcAbsX addr) := shape rfl rfl rfl rfl (fun h => nomatch h)
theorem rorAbsX (addr : Word) : Statement (.rorAbsX addr) := shape rfl rfl rfl rfl (fun h => nomatch h)
theorem rraAbsX (addr : Word) : Statement (.rraAbsX addr) := shape rfl rfl rfl rfl (fun h => nomatch h)
theorem nopImm80 (imm : Byte) : Statement (.nopImm80 imm) := shape rfl rfl rfl rfl (fun _ => rfl)
theorem staIndX (zp : Byte) : Statement (.staIndX zp) := shape rfl rfl rfl rfl (fun h => nomatch h)
theorem nopImm82 (imm : Byte) : Statement (.nopImm82 imm) := shape rfl rfl rfl rfl (fun _ => rfl)
theorem saxIndX (zp : Byte) : Statement (.saxIndX zp) := shape rfl rfl rfl rfl (fun h => nomatch h)
theorem styZp (zp : Byte) : Statement (.styZp zp) := shape rfl rfl rfl rfl (fun h => nomatch h)
theorem staZp (zp : Byte) : Statement (.staZp zp) := shape rfl rfl rfl rfl (fun h => nomatch h)
theorem stxZp (zp : Byte) : Statement (.stxZp zp) := shape rfl rfl rfl rfl (fun h => nomatch h)
theorem saxZp (zp : Byte) : Statement (.saxZp zp) := shape rfl rfl rfl rfl (fun h => nomatch h)
theorem dey : Statement .dey := shape rfl rfl rfl rfl (fun h => nomatch h)
theorem nopImm89 (imm : Byte) : Statement (.nopImm89 imm) := shape rfl rfl rfl rfl (fun _ => rfl)
theorem txa : Statement .txa := shape rfl rfl rfl rfl (fun h => nomatch h)
theorem styAbs (addr : Word) : Statement (.styAbs addr) := shape rfl rfl rfl rfl (fun h => nomatch h)
theorem staAbs (addr : Word) : Statement (.staAbs addr) := shape rfl rfl rfl rfl (fun h => nomatch h)
theorem stxAbs (addr : Word) : Statement (.stxAbs addr) := shape rfl rfl rfl rfl (fun h => nomatch h)
theorem saxAbs (addr : Word) : Statement (.saxAbs addr) := shape rfl rfl rfl rfl (fun h => nomatch h)
theorem bcc (off : Int) : Statement (.bcc off) := shape rfl rfl rfl rfl (fun h => nomatch h)
theorem staIndY (zp : Byte) : Statement (.staIndY zp) := shape rfl rfl rfl rfl (fun h => nomatch h)
theorem styZpX (zp : Byte) : Statement (.styZpX zp) := shape rfl rfl rfl rfl (fun h => nomatch h)
theorem staZpX (zp : Byte) : Statement (.staZpX zp) := shape rfl rfl rfl rfl (fun h => nomatch h)
theorem stxZpY (zp : Byte) : Statement (.stxZpY zp) := shape rfl rfl rfl rfl (fun h => nomatch h)
theorem saxZpY (zp : Byte) : Statement (.saxZpY zp) := shape rfl rfl rfl rfl (fun h => nomatch h)
theorem tya : Statement .tya := shape rfl rfl rfl rfl (fun h => nomatch h)
theorem staAbsY (addr : Word) : Statement (.staAbsY addr) := shape rfl rfl rfl rfl (fun h => nomatch h)
theorem txs : Statement .txs := shape rfl rfl rfl rfl (fun h => nomatch h)
theorem staAbsX (addr : Word) : Statement (.staAbsX addr) := shape rfl rfl rfl rfl (fun h => nomatch h)
theorem ldyImm (imm : Byte) : Statement (.ldyImm imm) := shape rfl rfl rfl rfl (fun h => nomatch h)
theorem ldaIndX (zp : Byte) : Statement (.ldaIndX zp) := shape rfl rfl rfl rfl (fun h => nomatch h)
theorem ldxImm (imm : Byte) : Statement (.ldxImm imm) := shape rfl rfl rfl rfl (fun h => nomatch h)
theorem laxIndX (zp : Byte) : Statement (.laxIndX zp) := shape rfl rfl rfl rfl (fun h => nomatch h)
theorem ldyZp (zp : Byte) : Statement (.ldyZp zp) := shape rfl rfl rfl rfl (fun h => nomatch h)
theorem ldaZp (zp : Byte) : Statement (.ldaZp zp) := shape rfl rfl rfl rfl (fun h => nomatch h)
theorem ldxZp (zp : Byte) : Statement (.ldxZp zp) := shape rfl rfl rfl rfl (fun h => nomatch h)
theorem laxZp (zp : Byte) : Statement (.laxZp zp) := shape rfl rfl rfl rfl (fun h => nomatch h)
theorem tay : Statement .tay := shape rfl rfl rfl rfl (fun h => nomatch h)
theorem ldaImm (imm : Byte) : Statement (.ldaImm imm) := shape rfl rfl rfl rfl (fun h => nomatch h)
theorem tax : Statement .tax := shape rfl rfl rfl rfl (fun h => nomatch h)
theorem ldyAbs (addr : Word) : Statement (.ldyAbs addr) := shape rfl rfl rfl rfl (fun h => nomatch h)
theorem ldaAbs (addr : Word) : Statement (.ldaAbs addr) := shape rfl rfl rfl rfl (fun h => nomatch h)
theorem ldxAbs (addr : Word) : Statement (.ldxAbs addr) := shape rfl rfl rfl rfl (fun h => nomatch h)
theorem laxAbs (addr : Word) : Statement (.laxAbs addr) := shape rfl rfl rfl rfl (fun h => nomatch h)
theorem bcs (off : Int) : Statement (.bcs off) := shape rfl rfl rfl rfl (fun h => nomatch h)
theorem ldaIndY (zp : Byte) : Statement (.ldaIndY zp) := shape rfl rfl rfl rfl (fun h => nomatch h)
theorem laxIndY (zp : Byte) : Statement (.laxIndY zp) := shape rfl rfl rfl rfl (fun h => nomatch h)
theorem ldyZpX (zp : Byte) : Statement (.ldyZpX zp) := shape rfl rfl rfl rfl (fun h => nomatch h)
theorem ldaZpX (zp : Byte) : Statement (.ldaZpX zp) := shape rfl rfl rfl rfl (fun h => nomatch h)
theorem ldxZpY (zp : Byte) : Statement (.ldxZpY zp) := shape rfl rfl rfl rfl (fun h => nomatch h)
theorem laxZpY (zp : Byte) : Statement (.laxZpY zp) := shape rfl rfl rfl rfl (fun h => nomatch h)
theorem clv : Statement .clv := shape rfl rfl rfl rfl (fun h => nomatch h)
theorem ldaAbsY (addr : Word) : Statement (.ldaAbsY addr) := shape rfl rfl rfl rfl (fun h => nomatch h)
theorem tsx : Statement .tsx := shape rfl rfl rfl rfl (fun h => nomatch h)
theorem ldyAbsX (addr : Word) : Statement (.ldyAbsX addr) := shape rfl rfl rfl rfl (fun h => nomatch h)
theorem ldaAbsX (addr : Word) : Statement (.ldaAbsX addr) := shape rfl rfl rfl rfl (fun h => nomatch h)
theorem ldxAbsY (addr : Word) : Statement (.ldxAbsY addr) := shape rfl rfl rfl rfl (fun h => nomatch h)
theorem laxAbsY (addr : Word) : Statement (.laxAbsY addr) := shape rfl rfl rfl rfl (fun h => nomatch h)
theorem cpyImm (imm : Byte) : Statement (.cpyImm imm) := shape rfl rfl rfl rfl (fun h => nomatch h)
theorem cmpIndX (zp : Byte) : Statement (.cmpIndX zp) := shape rfl rfl rfl rfl (fun h => nomatch h)
theorem nopImmC2 (imm : Byte) : Statement (.nopImmC2 imm) := shape rfl rfl rfl rfl (fun _ => rfl)
theorem dcpIndX (zp : Byte) : Statement (.dcpIndX zp) := shape rfl rfl rfl rfl (fun h => nomatch h)
theorem cpyZp (zp : Byte) : Statement (.cpyZp zp) := shape rfl rfl rfl rfl (fun h => nomatch h)
theorem cmpZp (zp : Byte) : Statement (.cmpZp zp) := shape rfl rfl rfl rfl (fun h => nomatch h)
theorem decZp (zp : Byte) : Statement (.decZp zp) := shape rfl rfl rfl rfl (fun h => nomatch h)
theorem dcpZp (zp : Byte) : Statement (.dcpZp zp) := shape rfl rfl rfl rfl (fun h => nomatch h)
theorem iny : Statement .iny := shape rfl rfl rfl rfl (fun h => nomatch h)
theorem cmpImm (imm : Byte) : Statement (.cmpImm imm) := shape rfl rfl rfl rfl (fun h => nomatch h)
theorem dex : Statement .dex := shape rfl rfl rfl rfl (fun h => nomatch h)
theorem cpyAbs (addr : Word) : Statement (.cpyAbs addr) := shape rfl rfl rfl rfl (fun h => nomatch h)
theorem cmpAbs (addr : Word) : Statement (.cmpAbs addr) := shape rfl rfl rfl rfl (fun h => nomatch h)
theorem decAbs (addr : Word) : Statement (.decAbs addr) := shape rfl rfl rfl rfl (fun h => nomatch h)
theorem dcpAbs (addr : Word) : Statement (.dcpAbs addr) := shape rfl rfl rfl rfl (fun h => nomatch h)
theorem bne (off : Int) : Statement (.bne off) := shape rfl rfl rfl rfl (fun h => nomatch h)
theorem cmpIndY (zp : Byte) : Statement (.cmpIndY zp) := shape rfl rfl rfl rfl (fun h => nomatch h)
theorem dcpIndY (zp : Byte) : Statement (.dcpIndY zp) := shape rfl rfl rfl rfl (fun h => nomatch h)
theorem nopZpXD4 (zp : Byte) : Statement (.nopZpXD4 zp) := shape rfl rfl rfl rfl (fun _ => rfl)
theorem cmpZpX (zp : Byte) : Statement (.cmpZpX zp) := shape rfl rfl rfl rfl (fun h => nomatch h)
theorem decZpX (zp : Byte) : Statement (.decZpX zp) := shape rfl rfl rfl rfl (fun h => nomatch h)
theorem dcpZpX (zp : Byte) : Statement (.dcpZpX zp) := shape rfl rfl rfl rfl (fun h => nomatch h)
theorem cld : Statement .cld := shape rfl rfl rfl rfl (fun h => nomatch h)
theorem cmpAbsY (addr : Word) : Statement (.cmpAbsY addr) := shape rfl rfl rfl rfl (fun h => nomatch h)
theorem nopImpDA : Statement .nopImpDA := shape rfl rfl rfl rfl (fun _ => rfl)
theorem dcpAbsY (addr : Word) : Statement (.dcpAbsY addr) := shape rfl rfl rfl rfl (fun h => nomatch h)
theorem nopAbsXDC (addr : Word) : Statement (.nopAbsXDC addr) := shape rfl rfl rfl rfl (fun _ => rfl)
theorem cmpAbsX (addr : Word) : Statement (.cmpAbsX addr) := shape rfl rfl rfl rfl (fun h => nomatch h)
theorem decAbsX (addr : Word) : Statement (.decAbsX addr) := shape rfl rfl rfl rfl (fun h => nomatch h)
theorem dcpAbsX (addr : Word) : Statement (.dcpAbsX addr) := shape rfl rfl rfl rfl (fun h => nomatch h)
theorem cpxImm (imm : Byte) : Statement (.cpxImm imm) := shape rfl rfl rfl rfl (fun h => nomatch h)
theorem sbcIndX (zp : Byte) : Statement (.sbcIndX zp) := shape rfl rfl rfl rfl (fun h => nomatch h)
theorem nopImmE2 (imm : Byte) : Statement (.nopImmE2 imm) := shape rfl rfl rfl rfl (fun _ => rfl)
theorem iscIndX (zp : Byte) : Statement (.iscIndX zp) := shape rfl rfl rfl rfl (fun h => nomatch h)
theorem cpxZp (zp : Byte) : Statement (.cpxZp zp) := shape rfl rfl rfl rfl (fun h => nomatch h)
theorem sbcZp (zp : Byte) : Statement (.sbcZp zp) := shape rfl rfl rfl rfl (fun h => nomatch h)
theorem incZp (zp : Byte) : Statement (.incZp zp) := shape rfl rfl rfl rfl (fun h => nomatch h)
theorem iscZp (zp : Byte) : Statement (.iscZp zp) := shape rfl rfl rfl rfl (fun h => nomatch h)
theorem inx : Statement .inx := shape rfl rfl rfl rfl (fun h => nomatch h)
theorem sbcImm (imm : Byte) : Statement (.sbcImm imm) := shape rfl rfl rfl rfl (fun h => nomatch h)
theorem nop : Statement .nop := shape rfl rfl rfl rfl (fun h => nomatch h)
theorem sbcImmEB (imm : Byte) : Statement (.sbcImmEB imm) := shape rfl rfl rfl rfl (fun _ => rfl)
theorem cpxAbs (addr : Word) : Statement (.cpxAbs addr) := shape rfl rfl rfl rfl (fun h => nomatch h)
theorem sbcAbs (addr : Word) : Statement (.sbcAbs addr) := shape rfl rfl rfl rfl (fun h => nomatch h)
theorem incAbs (addr : Word) : Statement (.incAbs addr) := shape rfl rfl rfl rfl (fun h => nomatch h)
theorem iscAbs (addr : Word) : Statement (.iscAbs addr) := shape rfl rfl rfl rfl (fun h => nomatch h)
theorem beq (off : Int) : Statement (.beq off) := shape rfl rfl rfl rfl (fun h => nomatch h)
theorem sbcIndY (zp : Byte) : Statement (.sbcIndY zp) := shape rfl rfl rfl rfl (fun h => nomatch h)
theorem iscIndY (zp : Byte) : Statement (.iscIndY zp) := shape rfl rfl rfl rfl (fun h => nomatch h)
theorem nopZpXF4 (zp : Byte) : Statement (.nopZpXF4 zp) := shape rfl rfl rfl rfl (fun _ => rfl)
theorem sbcZpX (zp : Byte) : Statement (.sbcZpX zp) := shape rfl rfl rfl rfl (fun h => nomatch h)
theorem incZpX (zp : Byte) : Statement (.incZpX zp) := shape rfl rfl rfl rfl (fun h => nomatch h)
theorem iscZpX (zp : Byte) : Statement (.iscZpX zp) := shape rfl rfl rfl rfl (fun h => nomatch h)
theorem sed : Statement .sed := shape rfl rfl rfl rfl (fun h => nomatch h)
theorem sbcAbsY (addr : Word) : Statement (.sbcAbsY addr) := shape rfl rfl rfl rfl (fun h => nomatch h)
theorem nopImpFA : Statement .nopImpFA := shape rfl rfl rfl rfl (fun _ => rfl)
theorem iscAbsY (addr : Word) : Statement (.iscAbsY addr) := shape rfl rfl rfl rfl (fun h => nomatch h)
theorem nopAbsXFC (addr : Word) : Statement (.nopAbsXFC addr) := shape rfl rfl rfl rfl (fun _ => rfl)
theorem sbcAbsX (addr : Word) : Statement (.sbcAbsX addr) := shape rfl rfl rfl rfl (fun h => nomatch h)
theorem incAbsX (addr : Word) : Statement (.incAbsX addr) := shape rfl rfl rfl rfl (fun h => nomatch h)
theorem iscAbsX (addr : Word) : Statement (.iscAbsX addr) := shape rfl rfl rfl rfl (fun h => nomatch h)

end Sys2Proof.Laws.EncodeShape
end

