-- ==== Sys2Proof/Machine/Disassembler.lean ====
section
/-! DEFINITION. The disassembler's record (30_encoding.md rules R160, R163), which the scope file keeps as a contract.
No step of the machine uses it. -/

namespace Sys2Proof.Machine

/-- The name of a mnemonic (rule R162). -/
def mnemonicName : Mnemonic → String
  | .lda => "LDA" | .ldx => "LDX" | .ldy => "LDY" | .sta => "STA" | .stx => "STX" | .sty => "STY"
  | .tax => "TAX" | .tay => "TAY" | .tsx => "TSX" | .txa => "TXA" | .txs => "TXS" | .tya => "TYA"
  | .adc => "ADC" | .sbc => "SBC" | .and => "AND" | .ora => "ORA" | .eor => "EOR" | .bit => "BIT"
  | .cmp => "CMP" | .cpx => "CPX" | .cpy => "CPY" | .inc => "INC" | .dec => "DEC" | .inx => "INX"
  | .iny => "INY" | .dex => "DEX" | .dey => "DEY" | .asl => "ASL" | .lsr => "LSR" | .rol => "ROL"
  | .ror => "ROR" | .bcc => "BCC" | .bcs => "BCS" | .beq => "BEQ" | .bmi => "BMI" | .bne => "BNE"
  | .bpl => "BPL" | .bvc => "BVC" | .bvs => "BVS" | .jmp => "JMP" | .jsr => "JSR" | .rts => "RTS"
  | .brk => "BRK" | .rti => "RTI" | .nop => "NOP" | .pha => "PHA" | .php => "PHP" | .pla => "PLA"
  | .plp => "PLP" | .clc => "CLC" | .sec => "SEC" | .cli => "CLI" | .sei => "SEI" | .cld => "CLD"
  | .sed => "SED" | .clv => "CLV" | .lax => "LAX" | .sax => "SAX" | .dcp => "DCP" | .isc => "ISC"
  | .slo => "SLO" | .rla => "RLA" | .sre => "SRE" | .rra => "RRA"

/-- One hexadecimal digit. -/
def hexDigit (n : Nat) : Char := "0123456789ABCDEF".toList.getD (n % 16) '0'

/-- `n` hexadecimal digits of a number. -/
def hexDigits : Nat → Nat → List Char
  | 0, _ => []
  | n + 1, v => hexDigits n (v / 16) ++ [hexDigit v]

/-- A byte as `$NN`. -/
def hexByte (b : Byte) : String := "$" ++ String.ofList (hexDigits 2 b.toNat)

/-- An address as `$NNNN`. -/
def hexWord (w : Word) : String := "$" ++ String.ofList (hexDigits 4 w.toNat)

/-- The operand string of rule R160; `next` is the address after the instruction, from which a branch is resolved. -/
def operandText (next : Word) (op : Operand) : String :=
  match op with
  | .implied => ""
  | .accumulator => "A"
  | .immediate imm => "#" ++ hexByte imm
  | .relative off => hexWord (next + BitVec.ofInt 16 off)
  | .mem (.zeroPage zp) => hexByte zp
  | .mem (.zeroPageX zp) => hexByte zp ++ ",X"
  | .mem (.zeroPageY zp) => hexByte zp ++ ",Y"
  | .mem (.absolute addr) => hexWord addr
  | .mem (.absoluteX addr) => hexWord addr ++ ",X"
  | .mem (.absoluteY addr) => hexWord addr ++ ",Y"
  | .mem (.indirect ptr) => "(" ++ hexWord ptr ++ ")"
  | .mem (.indirectX zp) => "(" ++ hexByte zp ++ ",X)"
  | .mem (.indirectY zp) => "(" ++ hexByte zp ++ "),Y"

/-- One record of the disassembly (rule R163). -/
structure DisasmRecord where
  address : Word
  opcode : Byte
  instruction : Option Instr
  rawBytes : List Byte
  operand : String
  deriving DecidableEq, Repr

/-- The record at the front of a byte range (rule R163): an undecodable opcode is a record of the one byte with no
instruction.  DESIGN CHOICE (log entry 17): so is an opcode whose operand bytes lie past the end of the range, and the
operand string of a record without an instruction, for which rule R160 gives no form, is empty. -/
def disasmOne (extraNops : Bool) (address : Word) (opcode : Byte) (rest : List Byte) : DisasmRecord :=
  match decode extraNops (opcode :: rest) with
  | .ok (i, _) =>
    { address := address, opcode := opcode, instruction := some i, rawBytes := (opcode :: rest).take i.size,
      operand := operandText (address + BitVec.ofNat 16 i.size) i.operand }
  | .error _ => { address := address, opcode := opcode, instruction := none, rawBytes := [opcode], operand := "" }

/-- The linear decoding of a byte range, at most `fuel` records (rule R163): the next position is `address + size`, or
`address + 1` after an undecodable byte. -/
def disassemble (extraNops : Bool) : Nat → Word → List Byte → List DisasmRecord
  | 0, _, _ => []
  | _ + 1, _, [] => []
  | fuel + 1, address, b :: rest =>
    let r := disasmOne extraNops address b rest
    r :: disassemble extraNops fuel (address + BitVec.ofNat 16 r.rawBytes.length) ((b :: rest).drop r.rawBytes.length)

end Sys2Proof.Machine
end

