-- ==== Sys2Proof/Tests/Slice0.lean ====
section
/-! SUPPORT. Tests of the model: ill-formed terms refused, words written out from the spec's encodings, and single steps
whose expected results are the spec's own vectors (95_test_vectors.md).  A vector's number stands in its test's name. -/

namespace Sys2Proof.Tests

open Sys2Proof Sys2Proof.Machine

section

set_option Elab.async false
set_option maxRecDepth 10000

/-! ## Helpers -/

/-- The cartridge of 95_test_vectors.md: NROM-128, CHR-RAM, horizontal, vectors $E000, $C000, $D000, code at `at`. -/
def testCart (at' : Word) (code : List Byte) : Cartridge :=
  { prg := Memory.ofBytesFrom (prgIndex .kb16 at') code ++ [(0x3FFB, 0xE0), (0x3FFD, 0xC0), (0x3FFF, 0xD0)]
    prgSize := .kb16, chr := [], chrLen := 8192, chrIsRam := true, mirroring := .horizontal }

/-- The harness state of 95_test_vectors.md: after the Reset step, PC set to the code (rule R391). -/
def bench (at' : Word) (code : List Byte) : State :=
  let s := State.powerUp conformanceParams (some (testCart at' code))
  { s with sp := 0xFD, p := 0x24, pc := at', cyc := 7, irql := none, ppu := { s.ppu with dot := 21 } }

/-- The state with more PRG bytes. -/
def withPrg (a : Word) (bytes : List Byte) (s : State) : State := placeBytes a bytes s

/-- The state with RAM bytes. -/
def withRam (cells : List Host.Cell) (s : State) : State :=
  { s with ram := cells.foldl (fun m c => m.write c.1 c.2) s.ram }

/-- A check of the next state. -/
def after (o : Out) (f : State → Bool) : Bool :=
  match o with
  | .next s => f s
  | .fault _ => false
  | .refused _ => false

/-- A check of the fault record and of the state the fault leaves. -/
def stops (o : Out) (r : FaultRecord) (f : State → Bool) : Bool :=
  match o with
  | .next _ => false
  | .fault (.decodeFault op pc s) => decide (r = .decode op pc) && decide (s.fault = some r) && f s
  | .fault (.busFault k a pc s) => decide (r = .bus k a pc) && decide (s.fault = some r) && f s
  | .fault (.stopped _) => false
  | .refused _ => false

/-- The state with PPU registers or memories set. -/
def withPpu (f : Ppu → Ppu) (s : State) : State := { s with ppu := f s.ppu }

/-- The state with CPU registers set. -/
def withRegs (f : State → State) (s : State) : State := f s

/-- The optional rows present as well (rule R157). -/
def withExtras (s : State) : State := { s with params := { conformanceParams with extraNops := true } }

/-- A check of a bus write. -/
def wrote (r : Result Unit) (f : State → Bool) : Bool :=
  match r with
  | .ok () s => f s
  | .fault _ _ => false

/-- A check of the byte a bus read finds and of the state after it. -/
def got (r : Result Byte) (b : Byte) (f : State → Bool) : Bool :=
  match r with
  | .ok b' s => b' == b && f s
  | .fault _ _ => false

/-! ## WellFormed: an ill-formed term for its one check -/

theorem test_wellFormed_refuses_offsets_out_of_range :
    [Instr.bpl 128, .bpl (-129), .bmi 128, .bmi (-129), .bvc 128, .bvc (-129), .bvs 128, .bvs (-129), .bcc 128,
      .bcc (-129), .bcs 128, .bcs (-129), .bne 128, .bne (-129), .beq 128, .beq (-129)].all
      (fun i => !i.wellFormed) = true := by decide

theorem test_wellFormed_takes_the_offset_bounds :
    [Instr.bpl 127, .bmi (-128), .bvc 127, .bvs (-128), .bcc 127, .bcs (-128), .bne 127, .beq (-128), .brk,
      .staAbsX 0xFFFF].all Instr.wellFormed = true := by decide

/-! ## Decoding: a word for every row, from rules R150 to R152 and R162

In a word the opcode byte is the lowest, then the operand's low byte, then its high byte. -/

theorem test_decode_lda :
    decodeTableWord 16 0x9CA1 = some (.ldaIndX 0x9C) ∧
    decodeTableWord 16 0x9CA5 = some (.ldaZp 0x9C) ∧
    decodeTableWord 16 0x9CA9 = some (.ldaImm 0x9C) ∧
    decodeTableWord 24 0xA13CAD = some (.ldaAbs 0xA13C) ∧
    decodeTableWord 16 0x9CB1 = some (.ldaIndY 0x9C) ∧
    decodeTableWord 16 0x9CB5 = some (.ldaZpX 0x9C) ∧
    decodeTableWord 24 0xA13CB9 = some (.ldaAbsY 0xA13C) ∧
    decodeTableWord 24 0xA13CBD = some (.ldaAbsX 0xA13C) := by decide

theorem test_decode_ldx :
    decodeTableWord 16 0x9CA2 = some (.ldxImm 0x9C) ∧
    decodeTableWord 16 0x9CA6 = some (.ldxZp 0x9C) ∧
    decodeTableWord 24 0xA13CAE = some (.ldxAbs 0xA13C) ∧
    decodeTableWord 16 0x9CB6 = some (.ldxZpY 0x9C) ∧
    decodeTableWord 24 0xA13CBE = some (.ldxAbsY 0xA13C) := by decide

theorem test_decode_ldy :
    decodeTableWord 16 0x9CA0 = some (.ldyImm 0x9C) ∧
    decodeTableWord 16 0x9CA4 = some (.ldyZp 0x9C) ∧
    decodeTableWord 24 0xA13CAC = some (.ldyAbs 0xA13C) ∧
    decodeTableWord 16 0x9CB4 = some (.ldyZpX 0x9C) ∧
    decodeTableWord 24 0xA13CBC = some (.ldyAbsX 0xA13C) := by decide

theorem test_decode_sta :
    decodeTableWord 16 0x9C81 = some (.staIndX 0x9C) ∧
    decodeTableWord 16 0x9C85 = some (.staZp 0x9C) ∧
    decodeTableWord 24 0xA13C8D = some (.staAbs 0xA13C) ∧
    decodeTableWord 16 0x9C91 = some (.staIndY 0x9C) ∧
    decodeTableWord 16 0x9C95 = some (.staZpX 0x9C) ∧
    decodeTableWord 24 0xA13C99 = some (.staAbsY 0xA13C) ∧
    decodeTableWord 24 0xA13C9D = some (.staAbsX 0xA13C) := by decide

theorem test_decode_stx :
    decodeTableWord 16 0x9C86 = some (.stxZp 0x9C) ∧
    decodeTableWord 24 0xA13C8E = some (.stxAbs 0xA13C) ∧
    decodeTableWord 16 0x9C96 = some (.stxZpY 0x9C) := by decide

theorem test_decode_sty :
    decodeTableWord 16 0x9C84 = some (.styZp 0x9C) ∧
    decodeTableWord 24 0xA13C8C = some (.styAbs 0xA13C) ∧
    decodeTableWord 16 0x9C94 = some (.styZpX 0x9C) := by decide

theorem test_decode_tax :
    decodeTableWord 8 0xAA = some .tax := by decide

theorem test_decode_tay :
    decodeTableWord 8 0xA8 = some .tay := by decide

theorem test_decode_tsx :
    decodeTableWord 8 0xBA = some .tsx := by decide

theorem test_decode_txa :
    decodeTableWord 8 0x8A = some .txa := by decide

theorem test_decode_txs :
    decodeTableWord 8 0x9A = some .txs := by decide

theorem test_decode_tya :
    decodeTableWord 8 0x98 = some .tya := by decide

theorem test_decode_adc :
    decodeTableWord 16 0x9C61 = some (.adcIndX 0x9C) ∧
    decodeTableWord 16 0x9C65 = some (.adcZp 0x9C) ∧
    decodeTableWord 16 0x9C69 = some (.adcImm 0x9C) ∧
    decodeTableWord 24 0xA13C6D = some (.adcAbs 0xA13C) ∧
    decodeTableWord 16 0x9C71 = some (.adcIndY 0x9C) ∧
    decodeTableWord 16 0x9C75 = some (.adcZpX 0x9C) ∧
    decodeTableWord 24 0xA13C79 = some (.adcAbsY 0xA13C) ∧
    decodeTableWord 24 0xA13C7D = some (.adcAbsX 0xA13C) := by decide

theorem test_decode_sbc :
    decodeTableWord 16 0x9CE1 = some (.sbcIndX 0x9C) ∧
    decodeTableWord 16 0x9CE5 = some (.sbcZp 0x9C) ∧
    decodeTableWord 16 0x9CE9 = some (.sbcImm 0x9C) ∧
    decodeTableWord 16 0x9CEB = some (.sbcImmEB 0x9C) ∧
    decodeTableWord 24 0xA13CED = some (.sbcAbs 0xA13C) ∧
    decodeTableWord 16 0x9CF1 = some (.sbcIndY 0x9C) ∧
    decodeTableWord 16 0x9CF5 = some (.sbcZpX 0x9C) ∧
    decodeTableWord 24 0xA13CF9 = some (.sbcAbsY 0xA13C) ∧
    decodeTableWord 24 0xA13CFD = some (.sbcAbsX 0xA13C) := by decide

theorem test_decode_and :
    decodeTableWord 16 0x9C21 = some (.andIndX 0x9C) ∧
    decodeTableWord 16 0x9C25 = some (.andZp 0x9C) ∧
    decodeTableWord 16 0x9C29 = some (.andImm 0x9C) ∧
    decodeTableWord 24 0xA13C2D = some (.andAbs 0xA13C) ∧
    decodeTableWord 16 0x9C31 = some (.andIndY 0x9C) ∧
    decodeTableWord 16 0x9C35 = some (.andZpX 0x9C) ∧
    decodeTableWord 24 0xA13C39 = some (.andAbsY 0xA13C) ∧
    decodeTableWord 24 0xA13C3D = some (.andAbsX 0xA13C) := by decide

theorem test_decode_ora :
    decodeTableWord 16 0x9C01 = some (.oraIndX 0x9C) ∧
    decodeTableWord 16 0x9C05 = some (.oraZp 0x9C) ∧
    decodeTableWord 16 0x9C09 = some (.oraImm 0x9C) ∧
    decodeTableWord 24 0xA13C0D = some (.oraAbs 0xA13C) ∧
    decodeTableWord 16 0x9C11 = some (.oraIndY 0x9C) ∧
    decodeTableWord 16 0x9C15 = some (.oraZpX 0x9C) ∧
    decodeTableWord 24 0xA13C19 = some (.oraAbsY 0xA13C) ∧
    decodeTableWord 24 0xA13C1D = some (.oraAbsX 0xA13C) := by decide

theorem test_decode_eor :
    decodeTableWord 16 0x9C41 = some (.eorIndX 0x9C) ∧
    decodeTableWord 16 0x9C45 = some (.eorZp 0x9C) ∧
    decodeTableWord 16 0x9C49 = some (.eorImm 0x9C) ∧
    decodeTableWord 24 0xA13C4D = some (.eorAbs 0xA13C) ∧
    decodeTableWord 16 0x9C51 = some (.eorIndY 0x9C) ∧
    decodeTableWord 16 0x9C55 = some (.eorZpX 0x9C) ∧
    decodeTableWord 24 0xA13C59 = some (.eorAbsY 0xA13C) ∧
    decodeTableWord 24 0xA13C5D = some (.eorAbsX 0xA13C) := by decide

theorem test_decode_bit :
    decodeTableWord 16 0x9C24 = some (.bitZp 0x9C) ∧
    decodeTableWord 24 0xA13C2C = some (.bitAbs 0xA13C) := by decide

theorem test_decode_cmp :
    decodeTableWord 16 0x9CC1 = some (.cmpIndX 0x9C) ∧
    decodeTableWord 16 0x9CC5 = some (.cmpZp 0x9C) ∧
    decodeTableWord 16 0x9CC9 = some (.cmpImm 0x9C) ∧
    decodeTableWord 24 0xA13CCD = some (.cmpAbs 0xA13C) ∧
    decodeTableWord 16 0x9CD1 = some (.cmpIndY 0x9C) ∧
    decodeTableWord 16 0x9CD5 = some (.cmpZpX 0x9C) ∧
    decodeTableWord 24 0xA13CD9 = some (.cmpAbsY 0xA13C) ∧
    decodeTableWord 24 0xA13CDD = some (.cmpAbsX 0xA13C) := by decide

theorem test_decode_cpx :
    decodeTableWord 16 0x9CE0 = some (.cpxImm 0x9C) ∧
    decodeTableWord 16 0x9CE4 = some (.cpxZp 0x9C) ∧
    decodeTableWord 24 0xA13CEC = some (.cpxAbs 0xA13C) := by decide

theorem test_decode_cpy :
    decodeTableWord 16 0x9CC0 = some (.cpyImm 0x9C) ∧
    decodeTableWord 16 0x9CC4 = some (.cpyZp 0x9C) ∧
    decodeTableWord 24 0xA13CCC = some (.cpyAbs 0xA13C) := by decide

theorem test_decode_inc :
    decodeTableWord 16 0x9CE6 = some (.incZp 0x9C) ∧
    decodeTableWord 24 0xA13CEE = some (.incAbs 0xA13C) ∧
    decodeTableWord 16 0x9CF6 = some (.incZpX 0x9C) ∧
    decodeTableWord 24 0xA13CFE = some (.incAbsX 0xA13C) := by decide

theorem test_decode_dec :
    decodeTableWord 16 0x9CC6 = some (.decZp 0x9C) ∧
    decodeTableWord 24 0xA13CCE = some (.decAbs 0xA13C) ∧
    decodeTableWord 16 0x9CD6 = some (.decZpX 0x9C) ∧
    decodeTableWord 24 0xA13CDE = some (.decAbsX 0xA13C) := by decide

theorem test_decode_inx :
    decodeTableWord 8 0xE8 = some .inx := by decide

theorem test_decode_iny :
    decodeTableWord 8 0xC8 = some .iny := by decide

theorem test_decode_dex :
    decodeTableWord 8 0xCA = some .dex := by decide

theorem test_decode_dey :
    decodeTableWord 8 0x88 = some .dey := by decide

theorem test_decode_asl :
    decodeTableWord 16 0x9C06 = some (.aslZp 0x9C) ∧
    decodeTableWord 8 0x0A = some .aslAcc ∧
    decodeTableWord 24 0xA13C0E = some (.aslAbs 0xA13C) ∧
    decodeTableWord 16 0x9C16 = some (.aslZpX 0x9C) ∧
    decodeTableWord 24 0xA13C1E = some (.aslAbsX 0xA13C) := by decide

theorem test_decode_lsr :
    decodeTableWord 16 0x9C46 = some (.lsrZp 0x9C) ∧
    decodeTableWord 8 0x4A = some .lsrAcc ∧
    decodeTableWord 24 0xA13C4E = some (.lsrAbs 0xA13C) ∧
    decodeTableWord 16 0x9C56 = some (.lsrZpX 0x9C) ∧
    decodeTableWord 24 0xA13C5E = some (.lsrAbsX 0xA13C) := by decide

theorem test_decode_rol :
    decodeTableWord 16 0x9C26 = some (.rolZp 0x9C) ∧
    decodeTableWord 8 0x2A = some .rolAcc ∧
    decodeTableWord 24 0xA13C2E = some (.rolAbs 0xA13C) ∧
    decodeTableWord 16 0x9C36 = some (.rolZpX 0x9C) ∧
    decodeTableWord 24 0xA13C3E = some (.rolAbsX 0xA13C) := by decide

theorem test_decode_ror :
    decodeTableWord 16 0x9C66 = some (.rorZp 0x9C) ∧
    decodeTableWord 8 0x6A = some .rorAcc ∧
    decodeTableWord 24 0xA13C6E = some (.rorAbs 0xA13C) ∧
    decodeTableWord 16 0x9C76 = some (.rorZpX 0x9C) ∧
    decodeTableWord 24 0xA13C7E = some (.rorAbsX 0xA13C) := by decide

theorem test_decode_bcc :
    decodeTableWord 16 0xFB90 = some (.bcc (-5)) := by decide

theorem test_decode_bcs :
    decodeTableWord 16 0xFBB0 = some (.bcs (-5)) := by decide

theorem test_decode_beq :
    decodeTableWord 16 0xFBF0 = some (.beq (-5)) := by decide

theorem test_decode_bmi :
    decodeTableWord 16 0xFB30 = some (.bmi (-5)) := by decide

theorem test_decode_bne :
    decodeTableWord 16 0xFBD0 = some (.bne (-5)) := by decide

theorem test_decode_bpl :
    decodeTableWord 16 0xFB10 = some (.bpl (-5)) := by decide

theorem test_decode_bvc :
    decodeTableWord 16 0xFB50 = some (.bvc (-5)) := by decide

theorem test_decode_bvs :
    decodeTableWord 16 0xFB70 = some (.bvs (-5)) := by decide

theorem test_decode_jmp :
    decodeTableWord 24 0xA13C4C = some (.jmpAbs 0xA13C) ∧
    decodeTableWord 24 0xA13C6C = some (.jmpInd 0xA13C) := by decide

theorem test_decode_jsr :
    decodeTableWord 24 0xA13C20 = some (.jsr 0xA13C) := by decide

theorem test_decode_rts :
    decodeTableWord 8 0x60 = some .rts := by decide

theorem test_decode_brk :
    decodeTableWord 8 0x00 = some .brk := by decide

theorem test_decode_rti :
    decodeTableWord 8 0x40 = some .rti := by decide

theorem test_decode_nop :
    decodeTableWord 16 0x9C04 = some (.nopZp04 0x9C) ∧
    decodeTableWord 24 0xA13C0C = some (.nopAbs0C 0xA13C) ∧
    decodeTableWord 16 0x9C14 = some (.nopZpX14 0x9C) ∧
    decodeTableWord 8 0x1A = some .nopImp1A ∧
    decodeTableWord 24 0xA13C1C = some (.nopAbsX1C 0xA13C) ∧
    decodeTableWord 16 0x9C34 = some (.nopZpX34 0x9C) ∧
    decodeTableWord 8 0x3A = some .nopImp3A ∧
    decodeTableWord 24 0xA13C3C = some (.nopAbsX3C 0xA13C) ∧
    decodeTableWord 16 0x9C44 = some (.nopZp44 0x9C) ∧
    decodeTableWord 16 0x9C54 = some (.nopZpX54 0x9C) ∧
    decodeTableWord 8 0x5A = some .nopImp5A ∧
    decodeTableWord 24 0xA13C5C = some (.nopAbsX5C 0xA13C) ∧
    decodeTableWord 16 0x9C64 = some (.nopZp64 0x9C) ∧
    decodeTableWord 16 0x9C74 = some (.nopZpX74 0x9C) ∧
    decodeTableWord 8 0x7A = some .nopImp7A ∧
    decodeTableWord 24 0xA13C7C = some (.nopAbsX7C 0xA13C) ∧
    decodeTableWord 16 0x9C80 = some (.nopImm80 0x9C) ∧
    decodeTableWord 16 0x9C82 = some (.nopImm82 0x9C) ∧
    decodeTableWord 16 0x9C89 = some (.nopImm89 0x9C) ∧
    decodeTableWord 16 0x9CC2 = some (.nopImmC2 0x9C) ∧
    decodeTableWord 16 0x9CD4 = some (.nopZpXD4 0x9C) ∧
    decodeTableWord 8 0xDA = some .nopImpDA ∧
    decodeTableWord 24 0xA13CDC = some (.nopAbsXDC 0xA13C) ∧
    decodeTableWord 16 0x9CE2 = some (.nopImmE2 0x9C) ∧
    decodeTableWord 8 0xEA = some .nop ∧
    decodeTableWord 16 0x9CF4 = some (.nopZpXF4 0x9C) ∧
    decodeTableWord 8 0xFA = some .nopImpFA ∧
    decodeTableWord 24 0xA13CFC = some (.nopAbsXFC 0xA13C) := by decide

theorem test_decode_pha :
    decodeTableWord 8 0x48 = some .pha := by decide

theorem test_decode_php :
    decodeTableWord 8 0x08 = some .php := by decide

theorem test_decode_pla :
    decodeTableWord 8 0x68 = some .pla := by decide

theorem test_decode_plp :
    decodeTableWord 8 0x28 = some .plp := by decide

theorem test_decode_clc :
    decodeTableWord 8 0x18 = some .clc := by decide

theorem test_decode_sec :
    decodeTableWord 8 0x38 = some .sec := by decide

theorem test_decode_cli :
    decodeTableWord 8 0x58 = some .cli := by decide

theorem test_decode_sei :
    decodeTableWord 8 0x78 = some .sei := by decide

theorem test_decode_cld :
    decodeTableWord 8 0xD8 = some .cld := by decide

theorem test_decode_sed :
    decodeTableWord 8 0xF8 = some .sed := by decide

theorem test_decode_clv :
    decodeTableWord 8 0xB8 = some .clv := by decide

theorem test_decode_lax :
    decodeTableWord 16 0x9CA3 = some (.laxIndX 0x9C) ∧
    decodeTableWord 16 0x9CA7 = some (.laxZp 0x9C) ∧
    decodeTableWord 24 0xA13CAF = some (.laxAbs 0xA13C) ∧
    decodeTableWord 16 0x9CB3 = some (.laxIndY 0x9C) ∧
    decodeTableWord 16 0x9CB7 = some (.laxZpY 0x9C) ∧
    decodeTableWord 24 0xA13CBF = some (.laxAbsY 0xA13C) := by decide

theorem test_decode_sax :
    decodeTableWord 16 0x9C83 = some (.saxIndX 0x9C) ∧
    decodeTableWord 16 0x9C87 = some (.saxZp 0x9C) ∧
    decodeTableWord 24 0xA13C8F = some (.saxAbs 0xA13C) ∧
    decodeTableWord 16 0x9C97 = some (.saxZpY 0x9C) := by decide

theorem test_decode_dcp :
    decodeTableWord 16 0x9CC3 = some (.dcpIndX 0x9C) ∧
    decodeTableWord 16 0x9CC7 = some (.dcpZp 0x9C) ∧
    decodeTableWord 24 0xA13CCF = some (.dcpAbs 0xA13C) ∧
    decodeTableWord 16 0x9CD3 = some (.dcpIndY 0x9C) ∧
    decodeTableWord 16 0x9CD7 = some (.dcpZpX 0x9C) ∧
    decodeTableWord 24 0xA13CDB = some (.dcpAbsY 0xA13C) ∧
    decodeTableWord 24 0xA13CDF = some (.dcpAbsX 0xA13C) := by decide

theorem test_decode_isc :
    decodeTableWord 16 0x9CE3 = some (.iscIndX 0x9C) ∧
    decodeTableWord 16 0x9CE7 = some (.iscZp 0x9C) ∧
    decodeTableWord 24 0xA13CEF = some (.iscAbs 0xA13C) ∧
    decodeTableWord 16 0x9CF3 = some (.iscIndY 0x9C) ∧
    decodeTableWord 16 0x9CF7 = some (.iscZpX 0x9C) ∧
    decodeTableWord 24 0xA13CFB = some (.iscAbsY 0xA13C) ∧
    decodeTableWord 24 0xA13CFF = some (.iscAbsX 0xA13C) := by decide

theorem test_decode_slo :
    decodeTableWord 16 0x9C03 = some (.sloIndX 0x9C) ∧
    decodeTableWord 16 0x9C07 = some (.sloZp 0x9C) ∧
    decodeTableWord 24 0xA13C0F = some (.sloAbs 0xA13C) ∧
    decodeTableWord 16 0x9C13 = some (.sloIndY 0x9C) ∧
    decodeTableWord 16 0x9C17 = some (.sloZpX 0x9C) ∧
    decodeTableWord 24 0xA13C1B = some (.sloAbsY 0xA13C) ∧
    decodeTableWord 24 0xA13C1F = some (.sloAbsX 0xA13C) := by decide

theorem test_decode_rla :
    decodeTableWord 16 0x9C23 = some (.rlaIndX 0x9C) ∧
    decodeTableWord 16 0x9C27 = some (.rlaZp 0x9C) ∧
    decodeTableWord 24 0xA13C2F = some (.rlaAbs 0xA13C) ∧
    decodeTableWord 16 0x9C33 = some (.rlaIndY 0x9C) ∧
    decodeTableWord 16 0x9C37 = some (.rlaZpX 0x9C) ∧
    decodeTableWord 24 0xA13C3B = some (.rlaAbsY 0xA13C) ∧
    decodeTableWord 24 0xA13C3F = some (.rlaAbsX 0xA13C) := by decide

theorem test_decode_sre :
    decodeTableWord 16 0x9C43 = some (.sreIndX 0x9C) ∧
    decodeTableWord 16 0x9C47 = some (.sreZp 0x9C) ∧
    decodeTableWord 24 0xA13C4F = some (.sreAbs 0xA13C) ∧
    decodeTableWord 16 0x9C53 = some (.sreIndY 0x9C) ∧
    decodeTableWord 16 0x9C57 = some (.sreZpX 0x9C) ∧
    decodeTableWord 24 0xA13C5B = some (.sreAbsY 0xA13C) ∧
    decodeTableWord 24 0xA13C5F = some (.sreAbsX 0xA13C) := by decide

theorem test_decode_rra :
    decodeTableWord 16 0x9C63 = some (.rraIndX 0x9C) ∧
    decodeTableWord 16 0x9C67 = some (.rraZp 0x9C) ∧
    decodeTableWord 24 0xA13C6F = some (.rraAbs 0xA13C) ∧
    decodeTableWord 16 0x9C73 = some (.rraIndY 0x9C) ∧
    decodeTableWord 16 0x9C77 = some (.rraZpX 0x9C) ∧
    decodeTableWord 24 0xA13C7B = some (.rraAbsY 0xA13C) ∧
    decodeTableWord 24 0xA13C7F = some (.rraAbsX 0xA13C) := by decide

theorem test_undefined_bytes_have_no_instruction :
    ([0x02, 0x0B, 0x12, 0x22, 0x2B, 0x32, 0x42, 0x4B, 0x52, 0x62, 0x6B, 0x72, 0x8B, 0x92, 0x93, 0x9B, 0x9C, 0x9E, 0x9F,
      0xAB, 0xB2, 0xBB, 0xCB, 0xD2, 0xF2] : List Byte).all
      (fun b => decide (decode true [b, 0, 0] = .error (.undefinedOpcode b))) = true := by decide

theorem test_optional_bytes_are_absent_without_extras :
    ([0x04, 0x0C, 0x14, 0x1A, 0x1C, 0x34, 0x3A, 0x3C, 0x44, 0x54, 0x5A, 0x5C, 0x64, 0x74, 0x7A, 0x7C, 0x80, 0x82, 0x89,
      0xC2, 0xD4, 0xDA, 0xDC, 0xE2, 0xEB, 0xF4, 0xFA, 0xFC] : List Byte).all
      (fun b => decide (decode false [b, 0, 0] = .error (.absentOpcode b))) = true := by decide

theorem test_branch_offset_is_signed :
    decode false [0xD0, 0x80, 0xEA] = .ok (.bne (-128), [0xEA]) ∧ decode false [0xD0, 0x7F] = .ok (.bne 127, []) ∧
    decode false [0xD0] = .error .truncated ∧ decode false [0x4C, 0x00] = .error .truncated := by decide

/-! ## Single steps of the spec's vectors -/

theorem test_v1_lda_imm_negative :
    after (step (bench 0xC000 [0xA9, 0x80] |> withRegs (fun r => { r with p := 0x24 })))
      (fun s => s.a == 0x80 && s.p == 0xA4 && s.pc == 0xC002 && s.cyc == 9) = true := by decide

theorem test_v2_lda_imm_zero :
    after (step (bench 0xC000 [0xA9, 0x00] |> withRegs (fun r => { r with a := 0x55, p := 0xA4 })))
      (fun s => s.a == 0x00 && s.p == 0x26 && s.cyc == 9) = true := by decide

theorem test_v3_lda_abs_x_crossing_a_page_1 :
    after (step (bench 0xC000 [0xBD, 0xFF, 0x02] |>
        withRam [(0x300, 0x11)] |>
        withRegs (fun r => { r with x := 0x01, p := 0x24 })))
      (fun s => s.a == 0x11 && s.pc == 0xC003 && s.cyc == 12) = true := by decide

theorem test_v4_lda_abs_x_same_page :
    after (step (bench 0xC000 [0xBD, 0x00, 0x03] |>
        withRam [(0x301, 0x22)] |>
        withRegs (fun r => { r with x := 0x01 })))
      (fun s => s.a == 0x22 && s.cyc == 11) = true := by decide

theorem test_v5_lda_zp_x_with_pointer_wrap_at_ff :
    after (step (bench 0xC000 [0xA1, 0xFE] |>
        withRam [(0x0FF, 0x34), (0x000, 0x02), (0x234, 0x99)] |>
        withRegs (fun r => { r with x := 0x01 })))
      (fun s => s.a == 0x99 && s.cyc == 13) = true := by decide

theorem test_v6_lda_zp_y_crossing_1 :
    after (step (bench 0xC000 [0xB1, 0x10] |>
        withRam [(0x010, 0xF8), (0x011, 0x02), (0x308, 0x77)] |>
        withRegs (fun r => { r with y := 0x10 })))
      (fun s => s.a == 0x77 && s.cyc == 13) = true := by decide

theorem test_v7_lda_zp_y_pointer_at_ff_wraps_to_00_d10 :
    after (step (bench 0xC000 [0xB1, 0xFF] |>
        withRam [(0x0FF, 0x00), (0x000, 0x04), (0x400, 0x5A)] |>
        withRegs (fun r => { r with y := 0x00 })))
      (fun s => s.a == 0x5A && s.cyc == 12) = true := by decide

theorem test_v8_to_v160_opcode_ad :
    after (step (bench 0xC000 [0xAD, 0x00, 0x08] |> withRam [(0x000, 0x3C)]))
      (fun s => s.a == 0x3C && s.cyc == 11) = true ∧
    stops (step (bench 0xC000 [0xAD, 0x16, 0x40] |>
        withRegs (fun r => { r with a := 0x12 }))) (.bus .read 0x4016 0xC000)
      (fun s => s.a == 0x12) = true ∧
    after (step (bench 0xC000 [0xAD, 0x02, 0x20] |> withPpu (fun p => { p with status := 0xE0, w := true })))
      (fun s => s.a == 0xE0 && s.ppu.status == 0x60 && s.ppu.w == false) = true := by decide

theorem test_v173_to_v175_opcode_ad :
    after (step (bench 0xC000 [0xAD, 0x00, 0x20] |>
        withPpu (fun p => { p with ctrl := 0x80 }) |>
        withRegs (fun r => { r with a := 0x55 })))
      (fun s => s.a == 0x00 && s.ppu.ctrl == 0x80) = true ∧
    after (step (bench 0xC000 [0xAD, 0xFA, 0x3F] |> withPpu (fun p => { p with status := 0x80 })))
      (fun s => s.a == 0x80 && s.ppu.status == 0x0) = true := by decide

theorem test_v10_ldx_zp_y_wraps_in_page_0 :
    after (step (bench 0xC000 [0xB6, 0xF0] |>
        withRam [(0x010, 0x80)] |>
        withRegs (fun r => { r with y := 0x20 })))
      (fun s => s.x == 0x80 && s.p == 0xA4 && s.cyc == 11) = true := by decide

theorem test_v11_ldx_abs_y_crossing_1 :
    after (step (bench 0xC000 [0xBE, 0xFF, 0x00] |>
        withRam [(0x100, 0x01)] |>
        withRegs (fun r => { r with y := 0x01 })))
      (fun s => s.x == 0x01 && s.cyc == 12) = true := by decide

theorem test_v12_ldy_abs_x_crossing_1 :
    after (step (bench 0xC000 [0xBC, 0xF0, 0x01] |>
        withRam [(0x210, 0x00)] |>
        withRegs (fun r => { r with x := 0x20, p := 0x24 })))
      (fun s => s.y == 0x00 && s.p == 0x26 && s.cyc == 12) = true := by decide

theorem test_v13_sta_abs_x_never_adds_a_cycle :
    after (step (bench 0xC000 [0x9D, 0xFF, 0x02] |> withRegs (fun r => { r with a := 0x42, x := 0x01 })))
      (fun s => s.ram.read 0x300 == 0x42 && s.cyc == 12) = true := by decide

theorem test_v14_sta_zp_y_always_6_cycles :
    after (step (bench 0xC000 [0x91, 0x10] |>
        withRam [(0x010, 0xF8), (0x011, 0x02)] |>
        withRegs (fun r => { r with a := 0x43, y := 0x10 })))
      (fun s => s.ram.read 0x308 == 0x43 && s.cyc == 13) = true := by decide

theorem test_v15_sta_8000_raises_busfault_write :
    stops (step (bench 0xC000 [0x8D, 0x00, 0x80] |>
        withRegs (fun r => { r with a := 0x01 }))) (.bus .write 0x8000 0xC000)
      (fun _ => true) = true := by decide

theorem test_v16_sta_1fff_writes_ram_07ff :
    after (step (bench 0xC000 [0x8D, 0xFF, 0x1F] |> withRegs (fun r => { r with a := 0xEE })))
      (fun s => s.ram.read 0x7FF == 0xEE) = true := by decide

theorem test_v17_stx_zp_y_wraps :
    after (step (bench 0xC000 [0x96, 0xFF] |> withRegs (fun r => { r with x := 0xAB, y := 0x02 })))
      (fun s => s.ram.read 0x001 == 0xAB && s.cyc == 11) = true := by decide

theorem test_v18_sty_abs :
    after (step (bench 0xC000 [0x8C, 0x00, 0x02] |> withRegs (fun r => { r with y := 0x05 })))
      (fun s => s.ram.read 0x200 == 0x05 && s.cyc == 11) = true := by decide

theorem test_v19_tax_negative :
    after (step (bench 0xC000 [0xAA] |> withRegs (fun r => { r with a := 0xFF, p := 0x24 })))
      (fun s => s.x == 0xFF && s.p == 0xA4 && s.cyc == 9) = true := by decide

theorem test_v20_tay_zero :
    after (step (bench 0xC000 [0xA8] |> withRegs (fun r => { r with a := 0x00, y := 0x09, p := 0x24 })))
      (fun s => s.y == 0x00 && s.p == 0x26) = true := by decide

theorem test_v21_tsx :
    after (step (bench 0xC000 [0xBA] |> withRegs (fun r => { r with sp := 0xFD, p := 0x24 })))
      (fun s => s.x == 0xFD && s.p == 0xA4) = true := by decide

theorem test_v22_txa :
    after (step (bench 0xC000 [0x8A] |> withRegs (fun r => { r with x := 0x80, p := 0x24 })))
      (fun s => s.a == 0x80 && s.p == 0xA4) = true := by decide

theorem test_v23_txs_sets_no_flag :
    after (step (bench 0xC000 [0x9A] |> withRegs (fun r => { r with x := 0x00, p := 0x24 })))
      (fun s => s.sp == 0x00 && s.p == 0x24) = true := by decide

theorem test_v24_tya :
    after (step (bench 0xC000 [0x98] |> withRegs (fun r => { r with y := 0x01, p := 0x26 })))
      (fun s => s.a == 0x01 && s.p == 0x24) = true := by decide

theorem test_v30_to_v33_opcode_69 :
    after (step (bench 0xC000 [0x69, 0x10] |> withRegs (fun r => { r with a := 0x50, p := 0x24 })))
      (fun s => s.a == 0x60 && s.p == 0x24) = true ∧
    after (step (bench 0xC000 [0x69, 0x50] |> withRegs (fun r => { r with a := 0x50, p := 0x24 })))
      (fun s => s.a == 0xA0 && s.p == 0xE4) = true ∧
    after (step (bench 0xC000 [0x69, 0x01] |> withRegs (fun r => { r with a := 0xFF, p := 0x24 })))
      (fun s => s.a == 0x00 && s.p == 0x27) = true ∧
    after (step (bench 0xC000 [0x69, 0x01] |> withRegs (fun r => { r with a := 0x7F, p := 0x24 })))
      (fun s => s.a == 0x80 && s.p == 0xE4) = true := by decide

theorem test_v34_to_v36_opcode_69 :
    after (step (bench 0xC000 [0x69, 0x80] |> withRegs (fun r => { r with a := 0x80, p := 0x24 })))
      (fun s => s.a == 0x00 && s.p == 0x67) = true ∧
    after (step (bench 0xC000 [0x69, 0xFF] |> withRegs (fun r => { r with a := 0xFF, p := 0x25 })))
      (fun s => s.a == 0xFF && s.p == 0xA5) = true ∧
    after (step (bench 0xC000 [0x69, 0x01] |> withRegs (fun r => { r with a := 0x09, p := 0x2C })))
      (fun s => s.a == 0x0A && s.p == 0x2C) = true := by decide

theorem test_v37_to_v39_opcode_e9 :
    after (step (bench 0xC000 [0xE9, 0xF0] |> withRegs (fun r => { r with a := 0x50, p := 0x25 })))
      (fun s => s.a == 0x60 && s.p == 0x24) = true ∧
    after (step (bench 0xC000 [0xE9, 0x01] |> withRegs (fun r => { r with a := 0x00, p := 0x25 })))
      (fun s => s.a == 0xFF && s.p == 0xA4) = true ∧
    after (step (bench 0xC000 [0xE9, 0x01] |> withRegs (fun r => { r with a := 0x80, p := 0x25 })))
      (fun s => s.a == 0x7F && s.p == 0x65) = true := by decide

theorem test_v40_to_v41_opcode_e9 :
    after (step (bench 0xC000 [0xE9, 0x42] |> withRegs (fun r => { r with a := 0x42, p := 0x25 })))
      (fun s => s.a == 0x00 && s.p == 0x27) = true ∧
    after (step (bench 0xC000 [0xE9, 0x42] |> withRegs (fun r => { r with a := 0x42, p := 0x24 })))
      (fun s => s.a == 0xFF && s.p == 0xA4) = true := by decide

theorem test_v42_and_imm :
    after (step (bench 0xC000 [0x29, 0x3C] |> withRegs (fun r => { r with a := 0xF0, p := 0x24 })))
      (fun s => s.a == 0x30 && s.p == 0x24) = true := by decide

theorem test_v43_ora_imm :
    after (step (bench 0xC000 [0x09, 0x80] |> withRegs (fun r => { r with a := 0x01, p := 0x24 })))
      (fun s => s.a == 0x81 && s.p == 0xA4) = true := by decide

theorem test_v44_eor_to_zero :
    after (step (bench 0xC000 [0x49, 0xFF] |> withRegs (fun r => { r with a := 0xFF, p := 0xA4 })))
      (fun s => s.a == 0x00 && s.p == 0x26) = true := by decide

theorem test_v45_bit_n_v_from_memory_z_from_a_m :
    after (step (bench 0xC000 [0x24, 0x10] |>
        withRam [(0x010, 0xC0)] |>
        withRegs (fun r => { r with a := 0x01, p := 0x24 })))
      (fun s => s.a == 0x01 && s.p == 0xE6 && s.cyc == 10) = true := by decide

theorem test_v46_bit_clears_n_v_when_m_7_6_0 :
    after (step (bench 0xC000 [0x24, 0x10] |>
        withRam [(0x010, 0x01)] |>
        withRegs (fun r => { r with a := 0x01, p := 0xE6 })))
      (fun s => s.p == 0x24) = true := by decide

theorem test_v47_bit_2002_in_vblank_n_1_vblank_and_w_cleared :
    after (step (bench 0xC000 [0x2C, 0x02, 0x20] |>
        withPpu (fun p => { p with status := 0x80, w := true }) |>
        withRegs (fun r => { r with a := 0x00, p := 0x24 })))
      (fun s => s.p == 0xA6 && s.ppu.status == 0x0 && s.ppu.w == false && s.cyc == 11) = true := by decide

theorem test_v48_to_v49_opcode_c9 :
    after (step (bench 0xC000 [0xC9, 0x40] |> withRegs (fun r => { r with a := 0x40, p := 0x24 })))
      (fun s => s.p == 0x27) = true ∧
    after (step (bench 0xC000 [0xC9, 0x41] |> withRegs (fun r => { r with a := 0x40, p := 0x25 })))
      (fun s => s.p == 0xA4) = true := by decide

theorem test_v50_to_v51_opcode_c9 :
    after (step (bench 0xC000 [0xC9, 0xFF] |> withRegs (fun r => { r with a := 0x00, p := 0x24 })))
      (fun s => s.p == 0x24) = true ∧
    after (step (bench 0xC000 [0xC9, 0x01] |> withRegs (fun r => { r with a := 0x80, p := 0x64 })))
      (fun s => s.p == 0x65) = true := by decide

theorem test_v52_cpx_less :
    after (step (bench 0xC000 [0xE0, 0x06] |> withRegs (fun r => { r with x := 0x05, p := 0x24 })))
      (fun s => s.p == 0xA4) = true := by decide

theorem test_v53_cpy_greater :
    after (step (bench 0xC000 [0xC0, 0x01] |> withRegs (fun r => { r with y := 0x10, p := 0x24 })))
      (fun s => s.p == 0x25) = true := by decide

theorem test_v54_inc_zp_to_negative :
    after (step (bench 0xC000 [0xE6, 0x10] |>
        withRam [(0x010, 0x7F)] |>
        withRegs (fun r => { r with p := 0x24 })))
      (fun s => s.ram.read 0x010 == 0x80 && s.p == 0xA4 && s.cyc == 12) = true := by decide

theorem test_v55_inc_ff_wraps_to_0 :
    after (step (bench 0xC000 [0xEE, 0x00, 0x02] |>
        withRam [(0x200, 0xFF)] |>
        withRegs (fun r => { r with p := 0x24 })))
      (fun s => s.ram.read 0x200 == 0x00 && s.p == 0x26 && s.cyc == 13) = true := by decide

theorem test_v56_inc_8000_read_succeeds_write_faults :
    stops (step (bench 0xC000 [0xEE, 0x00, 0x80] |>
        withRegs (fun r => { r with p := 0x24 }))) (.bus .write 0x8000 0xC000)
      (fun _ => true) = true := by decide

theorem test_v57_dec_0_wraps_to_0xff :
    after (step (bench 0xC000 [0xD6, 0x0F] |>
        withRam [(0x010, 0x00)] |>
        withRegs (fun r => { r with x := 0x01, p := 0x24 })))
      (fun s => s.ram.read 0x010 == 0xFF && s.p == 0xA4 && s.cyc == 13) = true := by decide

theorem test_v58_inx_0xff_wraps :
    after (step (bench 0xC000 [0xE8] |> withRegs (fun r => { r with x := 0xFF, p := 0x24 })))
      (fun s => s.x == 0x00 && s.p == 0x26) = true := by decide

theorem test_v59_iny :
    after (step (bench 0xC000 [0xC8] |> withRegs (fun r => { r with y := 0x7F, p := 0x24 })))
      (fun s => s.y == 0x80 && s.p == 0xA4) = true := by decide

theorem test_v60_dex_to_zero :
    after (step (bench 0xC000 [0xCA] |> withRegs (fun r => { r with x := 0x01, p := 0x24 })))
      (fun s => s.x == 0x00 && s.p == 0x26) = true := by decide

theorem test_v61_dey_0_wraps :
    after (step (bench 0xC000 [0x88] |> withRegs (fun r => { r with y := 0x00, p := 0x24 })))
      (fun s => s.y == 0xFF && s.p == 0xA4) = true := by decide

theorem test_v70_asl_a :
    after (step (bench 0xC000 [0x0A] |> withRegs (fun r => { r with a := 0x81, p := 0x24 })))
      (fun s => s.a == 0x02 && s.p == 0x25 && s.cyc == 9) = true := by decide

theorem test_v71_asl_zp_to_zero :
    after (step (bench 0xC000 [0x06, 0x10] |>
        withRam [(0x010, 0x80)] |>
        withRegs (fun r => { r with p := 0x24 })))
      (fun s => s.ram.read 0x010 == 0x00 && s.p == 0x27 && s.cyc == 12) = true := by decide

theorem test_v72_lsr_a :
    after (step (bench 0xC000 [0x4A] |> withRegs (fun r => { r with a := 0x03, p := 0xA4 })))
      (fun s => s.a == 0x01 && s.p == 0x25) = true := by decide

theorem test_v73_lsr_a_to_zero :
    after (step (bench 0xC000 [0x4A] |> withRegs (fun r => { r with a := 0x01, p := 0x24 })))
      (fun s => s.a == 0x00 && s.p == 0x27) = true := by decide

theorem test_v74_rol_a_with_carry_in :
    after (step (bench 0xC000 [0x2A] |> withRegs (fun r => { r with a := 0x40, p := 0x25 })))
      (fun s => s.a == 0x81 && s.p == 0xA4) = true := by decide

theorem test_v75_rol_abs_x_never_adds_a_cycle :
    after (step (bench 0xC000 [0x3E, 0xFF, 0x02] |>
        withRam [(0x300, 0x80)] |>
        withRegs (fun r => { r with x := 0x01, p := 0x24 })))
      (fun s => s.ram.read 0x300 == 0x00 && s.p == 0x27 && s.cyc == 14) = true := by decide

theorem test_v76_ror_a_with_carry_in :
    after (step (bench 0xC000 [0x6A] |> withRegs (fun r => { r with a := 0x02, p := 0x25 })))
      (fun s => s.a == 0x81 && s.p == 0xA4) = true := by decide

theorem test_v77_ror_zp_x_carry_out :
    after (step (bench 0xC000 [0x76, 0x0F] |>
        withRam [(0x010, 0x01)] |>
        withRegs (fun r => { r with x := 0x01, p := 0x24 })))
      (fun s => s.ram.read 0x010 == 0x00 && s.p == 0x27 && s.cyc == 13) = true := by decide

theorem test_v80_bcc_taken_same_page :
    after (step (bench 0xC000 [0x90, 0x02] |> withRegs (fun r => { r with p := 0x24 })))
      (fun s => s.pc == 0xC004 && s.cyc == 10) = true := by decide

theorem test_v81_bcs_not_taken :
    after (step (bench 0xC000 [0xB0, 0x02] |> withRegs (fun r => { r with p := 0x24 })))
      (fun s => s.pc == 0xC002 && s.cyc == 9) = true := by decide

theorem test_v82_beq_taken_across_page :
    after (step (bench 0xC0F0 [0xF0, 0x10] |> withRegs (fun r => { r with p := 0x26 })))
      (fun s => s.pc == 0xC102 && s.cyc == 11) = true := by decide

theorem test_v89_beq_target_wraps_past_ffff :
    after (step (bench 0xFFF0 [0xF0, 0x7F] |> withRegs (fun r => { r with p := 0x26 })))
      (fun s => s.pc == 0x0071 && s.cyc == 11) = true := by decide

theorem test_v83_bmi_backward_same_page :
    after (step (bench 0xC010 [0x30, 0xFC] |> withRegs (fun r => { r with p := 0xA4 })))
      (fun s => s.pc == 0xC00E && s.cyc == 10) = true := by decide

theorem test_v84_bne_backward_across_page :
    after (step (bench 0xC000 [0xD0, 0xFC] |> withRegs (fun r => { r with p := 0x24 })))
      (fun s => s.pc == 0xBFFE && s.cyc == 11) = true := by decide

theorem test_v86_bpl_taken_offset_0 :
    after (step (bench 0xC000 [0x10, 0x00] |> withRegs (fun r => { r with p := 0x24 })))
      (fun s => s.pc == 0xC002 && s.cyc == 10) = true := by decide

theorem test_v87_bvc_not_taken :
    after (step (bench 0xC000 [0x50, 0x10] |> withRegs (fun r => { r with p := 0x64 })))
      (fun s => s.pc == 0xC002 && s.cyc == 9) = true := by decide

theorem test_v88_bvs_taken_offset_0 :
    after (step (bench 0xC000 [0x70, 0x00] |> withRegs (fun r => { r with p := 0x64 })))
      (fun s => s.pc == 0xC002 && s.cyc == 10) = true := by decide

theorem test_v90_jmp_abs :
    after (step (bench 0xC000 [0x4C, 0xF5, 0xC5])) (fun s => s.pc == 0xC5F5 && s.cyc == 10) = true := by decide

theorem test_v91_jmp_02ff_page_wrap_bug :
    after (step (bench 0xC000 [0x6C, 0xFF, 0x02] |> withRam [(0x2FF, 0x00), (0x200, 0xC0), (0x300, 0x80)]))
      (fun s => s.pc == 0xC000 && s.cyc == 12) = true := by decide

theorem test_v92_jsr :
    after (step (bench 0xC000 [0x20, 0x00, 0xC1] |> withRegs (fun r => { r with sp := 0xFD })))
      (fun s => s.sp == 0xFB && s.pc == 0xC100 && s.ram.read 0x1FD == 0xC0 && s.ram.read 0x1FC == 0x02 && s.cyc == 13) = true := by decide

theorem test_v94_jsr_with_s_0x00_wraps_in_page_1 :
    after (step (bench 0xC000 [0x20, 0x00, 0xC1] |> withRegs (fun r => { r with sp := 0x00 })))
      (fun s => s.sp == 0xFE && s.ram.read 0x100 == 0xC0 && s.ram.read 0x1FF == 0x02) = true := by decide

theorem test_v95_rts_from_ffff_returns_to_0000 :
    after (step (bench 0xC000 [0x60] |>
        withRam [(0x1FC, 0xFF), (0x1FD, 0xFF)] |>
        withRegs (fun r => { r with sp := 0xFB })))
      (fun s => s.pc == 0x0000 && s.sp == 0xFD && s.cyc == 13) = true := by decide

theorem test_v96_brk :
    after (step (bench 0xC000 [0x00] |> withRegs (fun r => { r with p := 0x24, sp := 0xFD })))
      (fun s => s.sp == 0xFA && s.p == 0x24 && s.pc == 0xD000 && s.ram.read 0x1FD == 0xC0 && s.ram.read 0x1FC == 0x02 && s.ram.read 0x1FB == 0x34 && s.cyc == 14) = true := by decide

theorem test_v97_brk_with_i_0_sets_i :
    after (step (bench 0xC000 [0x00] |> withRegs (fun r => { r with p := 0xA1, sp := 0xFD })))
      (fun s => s.p == 0xA5 && s.ram.read 0x1FB == 0xB1) = true := by decide

theorem test_v99_rti_pulls_0xff_as_0xef :
    after (step (bench 0xC000 [0x40] |>
        withRam [(0x1FB, 0xFF), (0x1FC, 0x34), (0x1FD, 0x12)] |>
        withRegs (fun r => { r with sp := 0xFA })))
      (fun s => s.p == 0xEF && s.pc == 0x1234 && s.sp == 0xFD && s.cyc == 13) = true := by decide

theorem test_v100_nop :
    after (step (bench 0xC000 [0xEA] |> withRegs (fun r => { r with p := 0x24 })))
      (fun s => s.pc == 0xC001 && s.p == 0x24 && s.cyc == 9) = true := by decide

theorem test_v111_pha_with_s_0_wraps :
    after (step (bench 0xC000 [0x48] |> withRegs (fun r => { r with a := 0x07, sp := 0x00 })))
      (fun s => s.sp == 0xFF && s.ram.read 0x100 == 0x07 && s.cyc == 10) = true := by decide

theorem test_v112_php_pushes_p_0x30 :
    after (step (bench 0xC000 [0x08] |> withRegs (fun r => { r with p := 0x24, sp := 0xFD })))
      (fun s => s.ram.read 0x1FD == 0x34 && s.p == 0x24 && s.sp == 0xFC && s.cyc == 10) = true := by decide

theorem test_v113_pla_zero :
    after (step (bench 0xC000 [0x68] |>
        withRam [(0x1FE, 0x00)] |>
        withRegs (fun r => { r with a := 0x05, sp := 0xFD, p := 0x24 })))
      (fun s => s.a == 0x00 && s.p == 0x26 && s.sp == 0xFE && s.cyc == 11) = true := by decide

theorem test_v114_plp_0xff_gives_0xef :
    after (step (bench 0xC000 [0x28] |> withRam [(0x1FE, 0xFF)] |> withRegs (fun r => { r with sp := 0xFD })))
      (fun s => s.p == 0xEF && s.cyc == 11) = true := by decide

theorem test_v115_plp_0x00_gives_0x20 :
    after (step (bench 0xC000 [0x28] |>
        withRam [(0x1FE, 0x00)] |>
        withRegs (fun r => { r with sp := 0xFD, p := 0xEF })))
      (fun s => s.p == 0x20) = true := by decide

theorem test_v116_clc :
    after (step (bench 0xC000 [0x18] |> withRegs (fun r => { r with p := 0x25 }))) (fun s => s.p == 0x24) = true := by decide

theorem test_v117_sec :
    after (step (bench 0xC000 [0x38] |> withRegs (fun r => { r with p := 0x24 }))) (fun s => s.p == 0x25) = true := by decide

theorem test_v118_cli :
    after (step (bench 0xC000 [0x58] |> withRegs (fun r => { r with p := 0x24 }))) (fun s => s.p == 0x20) = true := by decide

theorem test_v119_sei :
    after (step (bench 0xC000 [0x78] |> withRegs (fun r => { r with p := 0x20 }))) (fun s => s.p == 0x24) = true := by decide

theorem test_v120_cld :
    after (step (bench 0xC000 [0xD8] |> withRegs (fun r => { r with p := 0x2C }))) (fun s => s.p == 0x24) = true := by decide

theorem test_v122_clv :
    after (step (bench 0xC000 [0xB8] |> withRegs (fun r => { r with p := 0x64 }))) (fun s => s.p == 0x24) = true := by decide

theorem test_v130_lax_zp :
    after (step (bench 0xC000 [0xA7, 0x10] |>
        withRam [(0x010, 0x80)] |>
        withRegs (fun r => { r with p := 0x24 })))
      (fun s => s.a == 0x80 && s.x == 0x80 && s.p == 0xA4 && s.cyc == 10) = true := by decide

theorem test_v131_lax_zp_y_crossing_1 :
    after (step (bench 0xC000 [0xB3, 0x10] |>
        withRam [(0x010, 0xF8), (0x011, 0x02), (0x308, 0x00)] |>
        withRegs (fun r => { r with y := 0x10, p := 0x24 })))
      (fun s => s.a == 0x00 && s.x == 0x00 && s.p == 0x26 && s.cyc == 13) = true := by decide

theorem test_v132_sax_zp :
    after (step (bench 0xC000 [0x87, 0x10] |> withRegs (fun r => { r with a := 0xF0, x := 0x3C, p := 0xA4 })))
      (fun s => s.ram.read 0x010 == 0x30 && s.p == 0xA4 && s.cyc == 10) = true := by decide

theorem test_v133_dcp_zp :
    after (step (bench 0xC000 [0xC7, 0x10] |>
        withRam [(0x010, 0x41)] |>
        withRegs (fun r => { r with a := 0x40, p := 0x24 })))
      (fun s => s.ram.read 0x010 == 0x40 && s.p == 0x27 && s.cyc == 12) = true := by decide

theorem test_v134_dcp_abs_x_7_cycles_m_0_0xff :
    after (step (bench 0xC000 [0xDF, 0xFF, 0x02] |>
        withRam [(0x300, 0x00)] |>
        withRegs (fun r => { r with a := 0x10, x := 0x01, p := 0x24 })))
      (fun s => s.ram.read 0x300 == 0xFF && s.p == 0x24 && s.cyc == 14) = true := by decide

theorem test_v135_isc_zp :
    after (step (bench 0xC000 [0xE7, 0x10] |>
        withRam [(0x010, 0x0F)] |>
        withRegs (fun r => { r with a := 0x10, p := 0x25 })))
      (fun s => s.a == 0x00 && s.ram.read 0x010 == 0x10 && s.p == 0x27 && s.cyc == 12) = true := by decide

theorem test_v136_slo_zp :
    after (step (bench 0xC000 [0x07, 0x10] |>
        withRam [(0x010, 0x81)] |>
        withRegs (fun r => { r with a := 0x01, p := 0x24 })))
      (fun s => s.a == 0x03 && s.ram.read 0x010 == 0x02 && s.p == 0x25) = true := by decide

theorem test_v137_rla_zp :
    after (step (bench 0xC000 [0x27, 0x10] |>
        withRam [(0x010, 0x40)] |>
        withRegs (fun r => { r with a := 0xFF, p := 0x25 })))
      (fun s => s.a == 0x81 && s.ram.read 0x010 == 0x81 && s.p == 0xA4) = true := by decide

theorem test_v138_sre_zp :
    after (step (bench 0xC000 [0x47, 0x10] |>
        withRam [(0x010, 0x03)] |>
        withRegs (fun r => { r with a := 0x01, p := 0x24 })))
      (fun s => s.a == 0x00 && s.ram.read 0x010 == 0x01 && s.p == 0x27) = true := by decide

theorem test_v139_rra_zp :
    after (step (bench 0xC000 [0x67, 0x10] |>
        withRam [(0x010, 0x03)] |>
        withRegs (fun r => { r with a := 0x10, p := 0x24 })))
      (fun s => s.a == 0x12 && s.ram.read 0x010 == 0x01 && s.p == 0x24) = true := by decide

theorem test_v140_rra_zp_y_8_cycles_even_when_crossing :
    after (step (bench 0xC000 [0x73, 0x10] |>
        withRam [(0x010, 0xF8), (0x011, 0x02), (0x308, 0x02)] |>
        withRegs (fun r => { r with a := 0x00, y := 0x10, p := 0x24 })))
      (fun s => s.a == 0x01 && s.ram.read 0x308 == 0x01 && s.cyc == 15) = true := by decide

theorem test_v141_jam_byte_02_raises_decodefault :
    stops (step (bench 0xC000 [0x02])) (.decode 0x02 0xC000) (fun s => s.pc == 0xC001) = true := by decide

theorem test_v142_04_with_p_extra_nops_false_faults :
    stops (step (bench 0xC000 [0x04, 0xA9])) (.decode 0x04 0xC000) (fun _ => true) = true := by decide

theorem test_v143_04_with_p_extra_nops_true_3_cycles :
    after (step (bench 0xC000 [0x04, 0xA9] |> withExtras |> withRegs (fun r => { r with p := 0x24 })))
      (fun s => s.pc == 0xC002 && s.p == 0x24 && s.cyc == 10) = true := by decide

theorem test_v144_1c_abs_x_crossing_with_extras_on_5_cycles :
    after (step (bench 0xC000 [0x1C, 0xFF, 0x02] |> withExtras |> withRegs (fun r => { r with x := 0x01 })))
      (fun s => s.pc == 0xC003 && s.cyc == 12) = true := by decide

theorem test_v145_eb_sbc_alias_with_extras_on :
    after (step (bench 0xC000 [0xEB, 0x10] |> withExtras |> withRegs (fun r => { r with a := 0x50, p := 0x25 })))
      (fun s => s.a == 0x40 && s.p == 0x25 && s.cyc == 9) = true := by decide

theorem test_v150_nmi_service :
    after (step (bench 0xC000 [0xEA, 0xEA, 0xEA] |>
        withPrg 0xE000 [0x40] |>
        withPrg 0xD000 [0x40] |>
        withRegs (fun r => { r with p := 0x24, sp := 0xFD }) |>
        State.raise .nmi))
      (fun s => s.pc == 0xE000 && s.sp == 0xFA && s.p == 0x24 && s.irql == none && s.ram.read 0x1FD == 0xC0 && s.ram.read 0x1FC == 0x00 && s.ram.read 0x1FB == 0x24 && s.cyc == 14) = true := by decide

theorem test_v151_irq_service_with_i_0_pushed_b_0 :
    after (step (bench 0xC000 [0xEA, 0xEA, 0xEA] |>
        withPrg 0xE000 [0x40] |>
        withPrg 0xD000 [0x40] |>
        withRegs (fun r => { r with p := 0xA1, sp := 0xFD }) |>
        State.raise .irq))
      (fun s => s.pc == 0xD000 && s.sp == 0xFA && s.p == 0xA5 && s.ram.read 0x1FB == 0xA1 && s.cyc == 14) = true := by decide

theorem test_v152_masked_irq_stays_latched_nop_runs :
    after (step (bench 0xC000 [0xEA, 0xEA, 0xEA] |>
        withPrg 0xE000 [0x40] |>
        withPrg 0xD000 [0x40] |>
        withRegs (fun r => { r with p := 0x24 }) |>
        State.raise .irq))
      (fun s => s.pc == 0xC001 && s.irql == some .irq && s.cyc == 9) = true := by decide

theorem test_v153_nmi_replaces_a_pending_irq :
    after (step (bench 0xC000 [0xEA, 0xEA, 0xEA] |>
        withPrg 0xE000 [0x40] |>
        withPrg 0xD000 [0x40] |>
        withRegs (fun r => { r with p := 0x20, sp := 0xFD }) |>
        State.raise .irq |>
        State.raise .nmi))
      (fun s => s.pc == 0xE000 && s.irql == none) = true := by decide

theorem test_v154_irq_does_not_replace_a_pending_nmi :
    after (step (bench 0xC000 [0xEA, 0xEA, 0xEA] |>
        withPrg 0xE000 [0x40] |>
        withPrg 0xD000 [0x40] |>
        withRegs (fun r => { r with p := 0x20 }) |>
        State.raise .nmi |>
        State.raise .irq))
      (fun s => s.pc == 0xE000 && s.irql == none) = true := by decide

theorem test_v155_warm_reset_s_3_i_set_others_kept :
    after (step (bench 0xC000 [0xEA, 0xEA, 0xEA] |>
        withPrg 0xE000 [0x40] |>
        withPrg 0xD000 [0x40] |>
        withRegs (fun r => { r with a := 0x11, p := 0xE3, sp := 0xF0 }) |>
        State.raise .reset))
      (fun s => s.pc == 0xC000 && s.sp == 0xED && s.p == 0xE7 && s.a == 0x11 && s.cyc == 14) = true := by decide

/-- No vector runs SED alone: rule R309. -/
theorem test_sed_sets_bit_3 :
    after (step { (bench 0xC000 [0xF8]) with p := 0x24 }) (fun s => s.p == 0x2C && s.pc == 0xC001 && s.cyc == 9) = true := by
  decide

/-- Rule R329: the operand's address is not accessed, so a NOP on the status port leaves VBlank. -/
theorem test_nop_absolute_reads_nothing :
    after (step (withExtras { (bench 0xC000 [0x0C, 0x02, 0x20]) with
      ppu := { (bench 0xC000 []).ppu with status := 0x80 } }))
      (fun s => s.ppu.status == 0x80 && s.pc == 0xC003 && s.cyc == 11) = true := by decide

/-! ## The PPU's ports, from the last access of the vectors of several steps -/

/-- A state with given PPU registers. -/
def portBench (ctrl : Byte) (v t : BitVec 15) (w : Bool) : State :=
  { (bench 0xC000 []) with ppu := { (bench 0xC000 []).ppu with ctrl := ctrl, v := v, t := t, w := w } }

theorem test_v161_ctrl_write_sets_t :
    wrote (memWrite 0 0x2000 0x91 (portBench 0 0 0x7FFF false)) (fun s => s.ppu.ctrl == 0x91 && s.ppu.t == 0x77FF) = true := by
  decide

theorem test_v162_scroll_first_write :
    wrote (memWrite 0 0x2005 0x7D (portBench 0 0 0 false)) (fun s => s.ppu.t == 0x000F && s.ppu.x == 5 && s.ppu.w) = true := by
  decide

theorem test_v163_scroll_second_write :
    wrote (memWrite 0 0x2005 0x5E (portBench 0 0 0x000F true)) (fun s => s.ppu.t == 0x616F && !s.ppu.w) = true := by decide

theorem test_v164_addr_second_write :
    wrote (memWrite 0 0x2006 0xF0 (portBench 0 0 0x3D00 true))
      (fun s => s.ppu.t == 0x3DF0 && s.ppu.v == 0x3DF0 && !s.ppu.w) = true := by decide

theorem test_v165_addr_first_write_clears_bit_14 :
    wrote (memWrite 0 0x2006 0xFF (portBench 0 0 0x40FF false))
      (fun s => s.ppu.t == 0x3FFF && s.ppu.w && s.ppu.v == 0) = true := by decide

theorem test_v166_v168_data_writes_to_nametables :
    wrote (memWrite 0 0x2007 0x55 (portBench 0 0x2108 0 false))
      (fun s => s.ppu.vram.read 0x108 == 0x55 && s.ppu.v == 0x2109) = true ∧
    wrote (memWrite 0 0x2007 0x99 (portBench 0 0x2400 0 false)) (fun s => s.ppu.vram == [(0x000, 0x99)]) = true := by decide

theorem test_v167_data_read_is_buffered :
    got (memRead 0 0x2007 { (portBench 0 0x2400 0 false) with
        ppu := { (portBench 0 0x2400 0 false).ppu with vram := [(0x000, 0x66), (0x001, 0x77)], rdbuf := 0x12 } }) 0x12
      (fun s => s.ppu.rdbuf == 0x66 && s.ppu.v == 0x2401) = true := by decide

theorem test_v169_v171_address_steps :
    wrote (memWrite 0 0x2007 0x55 (portBench 0x04 0x2000 0 false)) (fun s => s.ppu.v == 0x2020) = true ∧
    wrote (memWrite 0 0x2007 0x11 (portBench 0 0x7FFF 0 false))
      (fun s => s.ppu.v == 0 && s.ppu.pal.read 0x1F == 0x11) = true := by decide

theorem test_v170_palette_alias_and_unbuffered_read :
    wrote (memWrite 0 0x2007 0x2A (portBench 0 0x3F10 0 false)) (fun s => s.ppu.pal == [(0x00, 0x2A)]) = true ∧
    got (memRead 0 0x2007 { (portBench 0 0x3F00 0 false) with
        ppu := { (portBench 0 0x3F00 0 false).ppu with pal := [(0x00, 0x2A)], vram := [(0x700, 0x33)] } }) 0x2A
      (fun s => s.ppu.v == 0x3F01 && s.ppu.rdbuf == 0x33) = true := by decide

theorem test_v172_chr_ram_write :
    wrote (memWrite 0 0x2007 0xAB (portBench 0 0x0010 0 false))
      (fun s => s.ppu.v == 0x0011 && (s.cart.map fun c => c.chr.read 0x10) == some 0xAB) = true := by decide

theorem test_v174_oam_port :
    wrote (memWrite 0 0x2004 0x42 { (bench 0xC000 []) with ppu := { (bench 0xC000 []).ppu with oamaddr := 0xFF } })
      (fun s => s.ppu.oamaddr == 0 && s.ppu.oam == [(0xFF, 0x42)]) = true ∧
    got (memRead 0 0x2004 (bench 0xC000 [])) 0 (fun s => s.ppu.oamaddr == 0) = true := by decide

/-- Rule R342: a CHR-ROM write under P_CHR_ROM_WRITE = fault. -/
theorem test_chr_rom_write_faults :
    memWrite 0xC000 0x2007 0x01 { (portBench 0 0x1FFF 0 false) with
        cart := some { (testCart 0xC000 []) with chrIsRam := false } } =
      .fault (.bus .write 0x1FFF 0xC000) { (portBench 0 0x1FFF 0 false) with
        cart := some { (testCart 0xC000 []) with chrIsRam := false } } := by decide

/-! ## The PPU's ticks (rules R360 to R363) -/

/-- A state at a position of the frame. -/
def tickBench (scanline dot : Nat) (ctrl status : Byte) : State :=
  { (bench 0xC000 []) with
    ppu := { (bench 0xC000 []).ppu with scanline := scanline, dot := dot, ctrl := ctrl, status := status } }

/-- T-vectors of 95_test_vectors.md: VBlank begins at (241, 1), ends at (261, 0), and the frame wraps. -/
theorem test_ticks_at_the_frame_events :
    (ppuTick (tickBench 241 0 0x80 0)).ppu.status = 0x80 ∧ (ppuTick (tickBench 241 0 0x80 0)).ppu.nmiReq = true ∧
    (ppuTick (tickBench 241 0 0x00 0)).ppu.nmiReq = false ∧ (ppuTick (tickBench 240 340 0x80 0)).ppu.status = 0 ∧
    (ppuTick (tickBench 260 340 0x80 0xE0)).ppu.status = 0 ∧
    (ppuTick (tickBench 261 340 0 0)).ppu.scanline = 0 ∧ (ppuTick (tickBench 261 340 0 0)).ppu.dot = 0 := by decide

/-- Rule R372: the NMI request of a step's ticks is in the latch when the step ends. -/
theorem test_step_latches_the_nmi_request :
    after (step { (bench 0xC000 [0xEA]) with
        ppu := { (bench 0xC000 []).ppu with scanline := 240, dot := 338, ctrl := 0x80 } })
      (fun s => s.irql == some .nmi && !s.ppu.nmiReq && s.ppu.status == 0x80 && s.ppu.scanline == 241 && s.ppu.dot == 3) = true := by
  decide

/-! ## Power-up, the host's operations and the cartridge -/

/-- Rule R391. -/
theorem test_first_step_services_reset :
    after (step (State.powerUp conformanceParams (some (testCart 0xC000 []))))
      (fun s => s.sp == 0xFD && s.p == 0x24 && s.pc == 0xC000 && s.cyc == 7 && s.ppu.dot == 21 && s.irql == none) = true := by
  decide

/-- Rule R340 and D41: no step after a fault, none without a cartridge. -/
theorem test_no_step_after_a_fault_or_without_a_cartridge :
    (match step { (bench 0xC000 [0xEA]) with fault := some (.decode 2 0xC000) } with
      | .fault (.stopped r) => r == .decode 2 0xC000
      | .fault (.decodeFault _ _ _) => false
      | .fault (.busFault _ _ _ _) => false
      | .next _ => false
      | .refused _ => false) = true ∧
    (match step State.reset with
      | .refused r => r == .noCartridge
      | .fault _ => false
      | .next _ => false) = true := by decide

/-- Rules R130 and R134: refusals of a header. -/
theorem test_parse_refusals :
    parse [0x4E, 0x45, 0x53, 0x1A, 1, 0, 0, 0, 0, 0, 0, 0, 0, 0, 0] = .error .truncated ∧
    parse [0x4E, 0x45, 0x53, 0x1B, 1, 0, 0, 0, 0, 0, 0, 0, 0, 0, 0, 0] = .error .badMagic ∧
    parse [0x4E, 0x45, 0x53, 0x1A, 0, 0, 0, 0, 0, 0, 0, 0, 0, 0, 0, 0] = .error .unsupportedPrg ∧
    parse [0x4E, 0x45, 0x53, 0x1A, 3, 0, 0, 0, 0, 0, 0, 0, 0, 0, 0, 0] = .error .unsupportedPrg ∧
    parse [0x4E, 0x45, 0x53, 0x1A, 1, 0, 8, 0, 0, 0, 0, 0, 0, 0, 0, 0] = .error .unsupportedMirroring ∧
    parse [0x4E, 0x45, 0x53, 0x1A, 1, 0, 0x10, 0, 0, 0, 0, 0, 0, 0, 0, 0] = .error .unsupportedMapper ∧
    parse [0x4E, 0x45, 0x53, 0x1A, 1, 0, 0, 0x10, 0, 0, 0, 0, 0, 0, 0, 0] = .error .unsupportedMapper ∧
    parse [0x4E, 0x45, 0x53, 0x1A, 1, 0, 0, 0, 0, 0, 0, 0, 0, 0, 0, 0] = .error .truncated := by decide

/-- The instruction placed after reset is the one the very next step runs. -/
theorem test_withFetchWord_runs_the_instruction :
    after (step (State.reset.withFetchWord 16 0x42A9)) (fun s => s.a == 0x42 && s.pc == 0x0002 && s.cyc == 2) = true := by
  decide

end

end Sys2Proof.Tests
end

