-- ==== Sys2Proof/Tests/Witnesses.lean ====
section
/-! SUPPORT. For every statement of Certificates/Slice0/Obligations.lean that has hypotheses: concrete states and operands
that meet them, clause by clause, at the boundaries of their ranges. -/

namespace Sys2Proof.Tests

open Sys2Proof Sys2Proof.Machine

section

set_option Elab.async false
set_option maxRecDepth 10000

/-! ## Checks that become hypotheses -/

/-- Whether an outcome is a next state. -/
def goesOn : Out → Bool
  | .next _ => true
  | .fault _ => false
  | .refused _ => false

theorem next_of_goesOn {o : Out} (h : goesOn o = true) : ∃ t, o = .next t := by
  cases o with
  | next t => exact ⟨t, rfl⟩
  | fault f => cases h
  | refused r => cases h

/-- Whether an operation completes. -/
def completes {α : Type} : Result α → Bool
  | .ok _ _ => true
  | .fault _ _ => false

theorem ok_of_completes {α : Type} {r : Result α} (h : completes r = true) : ∃ b s, r = .ok b s := by
  cases r with
  | ok b s => exact ⟨b, s, rfl⟩
  | fault f s => cases h

theorem ok_unit_of_completes {r : Result Unit} (h : completes r = true) : ∃ s, r = .ok () s := by
  cases r with
  | ok b s => exact ⟨s, rfl⟩
  | fault f s => cases h

/-- Whether `i` reads the byte `b`, with page-cross bit `crossed`. -/
def readsByte (i : Instr) (s : State) (b : Byte) (crossed : Bool) : Bool :=
  match operandAddress i s with
  | none => decide (i.operand = .immediate b) && !crossed
  | some r => decide (crossed = r.crossed) && got (memRead (startPc i s) r.ea s) b (fun _ => true)

theorem operandByte_of {i : Instr} {s : State} {b : Byte} {crossed : Bool} (h : readsByte i s b crossed = true) :
    ∃ s1, OperandByte i s b crossed s1 := by
  unfold readsByte at h
  split at h
  · simp only [Bool.and_eq_true, decide_eq_true_eq, Bool.not_eq_eq_eq_not, Bool.not_true] at h
    exact ⟨s, Or.inl ⟨h.1, h.2, rfl⟩⟩
  · rename_i r hr
    simp only [Bool.and_eq_true, decide_eq_true_eq] at h
    obtain ⟨hc, hg⟩ := h
    unfold got at hg
    split at hg
    · rename_i b' s' hm
      simp only [Bool.and_true, beq_iff_eq] at hg
      exact ⟨s', Or.inr ⟨r, hr, hc, hg ▸ hm⟩⟩
    · cases hg

/-- `i` has an operand address `ea`. -/
def addresses (i : Instr) (s : State) (ea : Word) : Bool :=
  match operandAddress i s with
  | some r => decide (r.ea = ea)
  | none => false

theorem address_of {i : Instr} {s : State} {ea : Word} (h : addresses i s ea = true) :
    ∃ r, operandAddress i s = some r ∧ r.ea = ea := by
  unfold addresses at h
  split at h
  · rename_i r hr
    exact ⟨r, hr, of_decide_eq_true h⟩
  · cases h

/-- `i` can store `v` at its address. -/
def storesByte (i : Instr) (s : State) (v : Byte) : Bool :=
  match operandAddress i s with
  | some r => completes (memWrite (startPc i s) r.ea v s)
  | none => false

theorem store_of {i : Instr} {s : State} {v : Byte} (h : storesByte i s v = true) :
    ∃ r s1, operandAddress i s = some r ∧ memWrite (startPc i s) r.ea v s = .ok () s1 := by
  unfold storesByte at h
  split at h
  · rename_i r hr
    obtain ⟨s1, hs⟩ := ok_unit_of_completes h
    exact ⟨r, s1, hr, hs⟩
  · cases h

/-- `i` can read its address and then store there. -/
def modifies (i : Instr) (s : State) (v : Byte → State → Byte) (before : Byte → State → State) : Bool :=
  match operandAddress i s with
  | none => false
  | some r =>
    match memRead (startPc i s) r.ea s with
    | .fault _ _ => false
    | .ok b s1 => completes (memWrite (startPc i s) r.ea (v b s1) (before b s1))

theorem modify_of {i : Instr} {s : State} {v : Byte → State → Byte} {before : Byte → State → State}
    (h : modifies i s v before = true) :
    ∃ r b s1 s2, operandAddress i s = some r ∧ memRead (startPc i s) r.ea s = .ok b s1 ∧
      memWrite (startPc i s) r.ea (v b s1) (before b s1) = .ok () s2 := by
  unfold modifies at h
  split at h
  · cases h
  · rename_i r hr
    split at h
    · cases h
    · rename_i b s1 hm
      obtain ⟨s2, hs⟩ := ok_unit_of_completes h
      exact ⟨r, b, s1, s2, hr, hm, hs⟩

/-- `i` can read the PRG address it may not store to. -/
def readsPrg (i : Instr) (s : State) : Bool :=
  match operandAddress i s with
  | none => false
  | some r => decide (0x8000 ≤ r.ea.toNat) && completes (memRead (startPc i s) r.ea s)

theorem readsPrg_of {i : Instr} {s : State} (h : readsPrg i s = true) :
    ∃ r b s1, operandAddress i s = some r ∧ 0x8000 ≤ r.ea.toNat ∧ memRead (startPc i s) r.ea s = .ok b s1 := by
  unfold readsPrg at h
  split at h
  · cases h
  · rename_i r hr
    simp only [Bool.and_eq_true, decide_eq_true_eq] at h
    obtain ⟨b, s1, hm⟩ := ok_of_completes h.2
    exact ⟨r, b, s1, hr, h.1, hm⟩

/-- Whether an operation faults. -/
def faults {α : Type} : Result α → Bool
  | .ok _ _ => false
  | .fault _ _ => true

theorem fault_of_faults {α : Type} {r : Result α} (h : faults r = true) : ∃ e s, r = .fault e s := by
  cases r with
  | ok b s => cases h
  | fault e s => exact ⟨e, s, rfl⟩

/-- Whether the write of `v` at the operand's address faults. -/
def storeFaults (i : Instr) (s : State) (v : Byte) : Bool :=
  match operandAddress i s with
  | some r => faults (memWrite (startPc i s) r.ea v s)
  | none => false

theorem store_fault_of {i : Instr} {s : State} {v : Byte} (h : storeFaults i s v = true) :
    ∃ r e left, operandAddress i s = some r ∧ memWrite (startPc i s) r.ea v s = .fault e left := by
  unfold storeFaults at h
  split at h
  · rename_i r hr
    obtain ⟨e, left, hw⟩ := fault_of_faults h
    exact ⟨r, e, left, hr, hw⟩
  · cases h

/-- Whether the read at the operand's address faults. -/
def readFaults (i : Instr) (s : State) : Bool :=
  match operandAddress i s with
  | some r => faults (memRead (startPc i s) r.ea s)
  | none => false

theorem read_fault_of {i : Instr} {s : State} (h : readFaults i s = true) :
    ∃ r e left, operandAddress i s = some r ∧ memRead (startPc i s) r.ea s = .fault e left := by
  unfold readFaults at h
  split at h
  · rename_i r hr
    obtain ⟨e, left, hm⟩ := fault_of_faults h
    exact ⟨r, e, left, hr, hm⟩
  · cases h

/-- Whether the read at the operand's address succeeds and the write back faults. -/
def modifyFaults (i : Instr) (s : State) (v : Byte → State → Byte) (before : Byte → State → State) : Bool :=
  match operandAddress i s with
  | none => false
  | some r =>
    match memRead (startPc i s) r.ea s with
    | .fault _ _ => false
    | .ok b s1 => faults (memWrite (startPc i s) r.ea (v b s1) (before b s1))

theorem modify_fault_of {i : Instr} {s : State} {v : Byte → State → Byte} {before : Byte → State → State}
    (h : modifyFaults i s v before = true) :
    ∃ r b s1 e left, operandAddress i s = some r ∧ memRead (startPc i s) r.ea s = .ok b s1 ∧
      memWrite (startPc i s) r.ea (v b s1) (before b s1) = .fault e left := by
  unfold modifyFaults at h
  split at h
  · cases h
  · rename_i r hr
    split at h
    · cases h
    · rename_i b s1 hm
      obtain ⟨e, left, hw⟩ := fault_of_faults h
      exact ⟨r, b, s1, e, left, hr, hm, hw⟩

/-! ## States -/

/-- PC at $C003 behind an instruction, X = 1, Y = 2, pointers in the zero page to $1FFF, $7FFF and $FFFF. -/
def mid : State :=
  bench 0xC000 [0xEA, 0xEA, 0xEA, 0xEA] |>
    withRam [(0x10, 0xFF), (0x11, 0x1F), (0x20, 0xFF), (0x21, 0x7F), (0x30, 0xFF), (0x31, 0xFF), (0x7FF, 0x66)] |>
    withRegs (fun r => { r with pc := 0xC003, a := 0x80, x := 1, y := 2 })

/-- The same with CHR-ROM. -/
def midRom : State := { mid with cart := some { (testCart 0xC000 []) with chrIsRam := false } }

/-! ## Encoding -/

theorem witness_EncodedInstructionDecodesBack :
    (Instr.bne (-128)).wellFormed = true ∧ ((Instr.bne (-128)).optional = true → false = true) ∧
    (Instr.nopAbsX1C 0xFFFF).wellFormed = true ∧ ((Instr.nopAbsX1C 0xFFFF).optional = true → true = true) := by decide

theorem witness_DecodedBytesAreTheEncoding :
    decode true [0x9D, 0x34, 0x12, 0xEA] = .ok (.staAbsX 0x1234, [0xEA]) ∧
    decode false [0x10, 0x7F] = .ok (.bpl 127, []) ∧ decode true [0x80, 0xFF] = .ok (.nopImm80 0xFF, []) := by decide

theorem witness_ReverseLookupFindsTheOfficialOpcode :
    (Instr.sbcImm 1).optional = false ∧ (Instr.sbcImm 2).optional = false ∧
    (Instr.sbcImm 1).mnemonic = (Instr.sbcImm 2).mnemonic ∧
    (Instr.sbcImm 1).operand.mode = (Instr.sbcImm 2).operand.mode ∧ Mode.absoluteX ≠ .implied := by decide

/-! ## Fetch and step -/

/-- An instruction from $1FFE on: RAM up to its last byte. -/
def atRamTop : State := { (mid |> withRam [(0x7FE, 0xA9), (0x7FF, 0x66)]) with pc := 0x1FFE }

/-- An instruction whose bytes lie at $FFFF, $0000 and $0001, with a masked IRQ waiting. -/
def atWrap : State :=
  { (mid |> withPrg 0xFFFF [0x4C] |> withRam [(0, 0x34), (1, 0x12)]) with pc := 0xFFFF, irql := some .irq }

theorem witness_StepRunsTheDecodedInstruction :
    (atRamTop.running = true ∧ arbitrate atRamTop = none ∧ atRamTop.holds atRamTop.pc [0xA9, 0x66] = true ∧
      decode atRamTop.params.extraNops [0xA9, 0x66] = .ok (.ldaImm 0x66, [])) ∧
    (atWrap.running = true ∧ arbitrate atWrap = none ∧ atWrap.holds atWrap.pc [0x4C, 0x34, 0x12] = true ∧
      decode atWrap.params.extraNops [0x4C, 0x34, 0x12] = .ok (.jmpAbs 0x1234, [])) := by decide

theorem witness_OpcodeFetchFaults :
    (∃ s : State, s.running = true ∧ arbitrate s = none ∧ ∃ s1, memRead s.pc s.pc s = .ok 0x02 s1) ∧
    (∃ s : State, s.running = true ∧ arbitrate s = none ∧ s.params.extraNops = false ∧
      ∃ s1, memRead s.pc s.pc s = .ok 0x04 s1) ∧
    (∃ s : State, s.running = true ∧ arbitrate s = none ∧ s.pc.toNat = 0x4000) ∧
    (∃ s : State, s.running = true ∧ arbitrate s = none ∧ s.pc.toNat = 0x7FFF) :=
  ⟨⟨bench 0xC000 [0x02], by decide, by decide, bench 0xC000 [0x02], by decide⟩,
   ⟨bench 0xC000 [0x04], by decide, by decide, by decide, bench 0xC000 [0x04], by decide⟩,
   ⟨bench 0x4000 [], by decide, by decide, by decide⟩, ⟨bench 0x7FFF [], by decide, by decide, by decide⟩⟩

/-! ## Interrupts, reset and power-up -/

theorem witness_ResetServiceWritesOnlySPIAndPc :
    (State.raise .reset mid).running = true ∧ (State.raise .reset mid).irql = some .reset ∧
    (State.raise .reset mid).vector 0xFFFC = some 0xC000 := by decide

/-- I clear, so that an IRQ is serviced. -/
def open' : State := { mid with p := 0xA0 }

theorem witness_InterruptServicePushesPcAndFlags :
    ((State.raise .nmi mid).running = true ∧ (State.raise .nmi mid).irql = some .nmi ∧
      (State.raise .nmi mid).vector 0xFFFA = some 0xE000) ∧
    ((State.raise .irq open').running = true ∧ (State.raise .irq open').irql = some .irq ∧
      (State.raise .irq open').p.getLsbD 2 = false ∧ (State.raise .irq open').vector 0xFFFE = some 0xD000) := by decide

theorem witness_ArbiterServicesOrExecutes :
    mid.irql = none ∧ ((State.raise .irq mid).irql = some .irq ∧ (State.raise .irq mid).p.getLsbD 2 = true) ∧
    (State.raise .nmi mid).irql = some .nmi ∧ (State.raise .reset mid).irql = some .reset ∧
    ((State.raise .irq open').irql = some .irq ∧ (State.raise .irq open').p.getLsbD 2 = false) ∧
    goesOn (cpuStep mid) = true ∧ goesOn (cpuStep (State.raise .irq open')) = true := by decide

theorem witness_LatchKeepsTheHighestRequest : mid.cart = some (testCart 0xC000 [0xEA, 0xEA, 0xEA, 0xEA]) := by decide

theorem witness_PowerUpLeavesTheListedValues :
    (∃ c, mid.cart = some c ∧ c.chrIsRam = true) ∧ (∃ c, midRom.cart = some c ∧ c.chrIsRam = false) :=
  ⟨⟨testCart 0xC000 [0xEA, 0xEA, 0xEA, 0xEA], by decide, by decide⟩,
   ⟨{ (testCart 0xC000 []) with chrIsRam := false }, by decide, by decide⟩⟩

theorem witness_FirstStepServicesReset :
    (State.powerUp conformanceParams (some (testCart 0xC000 []))).vector 0xFFFC = some 0xC000 ∧
    conformanceParams.spriteFlags = .never := by decide

/-! ## The buses and the PPU's ports -/

/-- Both ends of every range of the map: $0000 and $1FFF, $2000 (port 0) and $3FFF (port 7), $4000 and $7FFF, $8000 and
$FFFF. -/
theorem witness_CpuBusRoutesByAddress :
    ((0x0000 : Word).toNat < 0x2000 ∧ (0x1FFF : Word).toNat < 0x2000) ∧
    (0x2000 ≤ (0x2000 : Word).toNat ∧ (0x2000 : Word).toNat < 0x4000 ∧
      [PpuPort.ctrl, .mask, .status, .oamAddr, .oamData, .scroll, .addr, .data][((0x2000 : Word) &&& 7).toNat]? =
        some .ctrl) ∧
    (0x2000 ≤ (0x3FFF : Word).toNat ∧ (0x3FFF : Word).toNat < 0x4000 ∧
      [PpuPort.ctrl, .mask, .status, .oamAddr, .oamData, .scroll, .addr, .data][((0x3FFF : Word) &&& 7).toNat]? =
        some .data) ∧
    (0x4000 ≤ (0x4000 : Word).toNat ∧ (0x7FFF : Word).toNat < 0x8000) ∧
    (0x8000 ≤ (0x8000 : Word).toNat ∧ 0x8000 ≤ (0xFFFF : Word).toNat ∧
      mid.cart = some (testCart 0xC000 [0xEA, 0xEA, 0xEA, 0xEA])) := by decide

theorem witness_RamReadsBackThroughMirrors :
    mid.ram.wf 0x800 = true ∧ (0x07FF : Word).toNat < 0x2000 ∧ (0x1FFF : Word).toNat < 0x2000 ∧
    ((0x07FF : Word) &&& 0x07FF) = ((0x1FFF : Word) &&& 0x07FF) := by decide

theorem witness_StatusReadClearsVBlankAndToggle : (0 : Nat) < 8 ∧ (7 : Nat) < 8 := by decide

theorem witness_WriteOnlyPortsReadTheOpenBus :
    PpuPort.ctrl ∈ [PpuPort.ctrl, .mask, .oamAddr, .scroll, .addr] ∧ PpuPort.addr ∈ [PpuPort.ctrl, .mask, .oamAddr, .scroll, .addr] ∧
    mid.params.openBus = .fixed 0 ∧ State.reset.params.openBus = .draw := by decide

theorem witness_CtrlMaskAndOamPorts :
    mid.ppu.oam.wf 0x100 = true ∧ ({ mid.ppu with oam := [(0x00, 1), (0xFF, 2)] } : Ppu).oam.wf 0x100 = true := by decide

theorem witness_ScrollAndAddrWritesFillT :
    (portBench 0 0 0x7FFF false).ppu.w = false ∧ (portBench 0 0 0x7FFF true).ppu.w = true := by decide

/-- The ends of the three ranges, $1FFF, $2000, $3EFF and $3F00, with either step of v and with v's bit 14 set. -/
theorem witness_DataPortReadIsBuffered :
    ((portBench 0 0x1FFF 0 false).cart = some (testCart 0xC000 []) ∧
      (0x1FFF : BitVec 14) = (portBench 0 0x1FFF 0 false).ppu.v.extractLsb' 0 14 ∧ (0x1FFF : BitVec 14).toNat < 0x2000 ∧
      (0x2000 : BitVec 15) = (portBench 0 0x1FFF 0 false).ppu.v +
        (if (portBench 0 0x1FFF 0 false).ppu.ctrl.getLsbD 2 then 32 else 1)) ∧
    ((0x2000 : BitVec 14) = (portBench 0 0x2000 0 false).ppu.v.extractLsb' 0 14 ∧ 0x2000 ≤ (0x2000 : BitVec 14).toNat) ∧
    ((0x3EFF : BitVec 14) = (portBench 0 0x3EFF 0 false).ppu.v.extractLsb' 0 14 ∧ (0x3EFF : BitVec 14).toNat < 0x3F00) ∧
    ((portBench 4 0x7F00 0 false).cart = some (testCart 0xC000 []) ∧
      (0x3F00 : BitVec 14) = (portBench 4 0x7F00 0 false).ppu.v.extractLsb' 0 14 ∧ 0x3F00 ≤ (0x3F00 : BitVec 14).toNat ∧
      (0x7F20 : BitVec 15) = (portBench 4 0x7F00 0 false).ppu.v +
        (if (portBench 4 0x7F00 0 false).ppu.ctrl.getLsbD 2 then 32 else 1)) := by
  decide

/-- The parameters with CHR-ROM writes ignored. -/
def romIgnored : State := { midRom with params := { conformanceParams with chrRomWrite := .ignore } }

theorem witness_DataPortWriteGoesByAddress :
    (∃ (s : State) (c : Cartridge), s.cart = some c ∧ (0x1FFF : BitVec 14) = s.ppu.v.extractLsb' 0 14 ∧
      (0x1FFF : BitVec 14).toNat < 0x2000 ∧ c.chrIsRam = true) ∧
    (∃ (s : State) (c : Cartridge), s.cart = some c ∧ (0 : BitVec 14) = s.ppu.v.extractLsb' 0 14 ∧
      (0 : BitVec 14).toNat < 0x2000 ∧ c.chrIsRam = false ∧ s.params.chrRomWrite = .ignore) ∧
    (∃ (s : State) (c : Cartridge), s.cart = some c ∧ (0 : BitVec 14) = s.ppu.v.extractLsb' 0 14 ∧
      (0 : BitVec 14).toNat < 0x2000 ∧ c.chrIsRam = false ∧ s.params.chrRomWrite = .fault) ∧
    (∃ (s : State) (c : Cartridge), s.cart = some c ∧ (0x2000 : BitVec 14) = s.ppu.v.extractLsb' 0 14) ∧
    (∃ (s : State) (c : Cartridge), s.cart = some c ∧ (0x3EFF : BitVec 14) = s.ppu.v.extractLsb' 0 14) ∧
    (∃ (s : State) (c : Cartridge), s.cart = some c ∧ (0x3F00 : BitVec 14) = s.ppu.v.extractLsb' 0 14) ∧
    (0x2000 ≤ (0x2000 : BitVec 14).toNat ∧ (0x3EFF : BitVec 14).toNat < 0x3F00 ∧ 0x3F00 ≤ (0x3F00 : BitVec 14).toNat) :=
  ⟨⟨portBench 0 0x1FFF 0 false, testCart 0xC000 [], by decide, by decide, by decide, by decide⟩,
   ⟨romIgnored, { (testCart 0xC000 []) with chrIsRam := false }, by decide, by decide, by decide, by decide, by decide⟩,
   ⟨midRom, { (testCart 0xC000 []) with chrIsRam := false }, by decide, by decide, by decide, by decide, by decide⟩,
   ⟨portBench 0 0x2000 0 false, testCart 0xC000 [], by decide, by decide⟩,
   ⟨portBench 0 0x3EFF 0 false, testCart 0xC000 [], by decide, by decide⟩,
   ⟨portBench 0 0x3F00 0 false, testCart 0xC000 [], by decide, by decide⟩, by decide⟩

theorem witness_NametableAndPaletteMirrors :
    (0x2FFF : BitVec 14).toNat < 0x3000 ∧ (0x3F1C : BitVec 14) &&& 0x13 = 0x10 ∧ (0x3F11 : BitVec 14) &&& 0x13 ≠ 0x10 := by
  decide

/-! ## The PPU's timing -/

theorem witness_TicksAdvanceTheFramePosition :
    (tickBench 261 340 0 0).ppu.dot ≤ 340 ∧ (tickBench 261 340 0 0).ppu.scanline ≤ 261 := by decide

theorem witness_TickEventsByPosition :
    ((ppuTick (tickBench 241 0 0x80 0)).ppu.scanline = 241 ∧ (ppuTick (tickBench 241 0 0x80 0)).ppu.dot = 1) ∧
    ((ppuTick (tickBench 260 340 0 0)).ppu.scanline = 261 ∧ (ppuTick (tickBench 260 340 0 0)).ppu.dot = 0) ∧
    (¬ ((ppuTick (tickBench 241 1 0 0)).ppu.scanline = 241 ∧ (ppuTick (tickBench 241 1 0 0)).ppu.dot = 1) ∧
      ¬ ((ppuTick (tickBench 241 1 0 0)).ppu.scanline = 261 ∧ (ppuTick (tickBench 241 1 0 0)).ppu.dot = 0)) ∧
    (tickBench 0 0 0 0).params.spriteFlags = .never := by decide

theorem witness_VBlankLastsFromTick82182 :
    (tickBench 0 0 0x80 0).ppu.dot = 0 ∧ (tickBench 0 0 0x80 0).ppu.scanline = 0 ∧
    (tickBench 0 0 0x80 0).ppu.status.getLsbD 7 = false ∧ (tickBench 0 0 0x80 0).ppu.nmiReq = false ∧
    82182 ≤ 89342 ∧ 89342 ≤ 89342 := by decide

theorem witness_StepTicksThreeDotsPerCycle :
    mid.ppu.dot ≤ 340 ∧ mid.ppu.scanline ≤ 261 ∧ ∃ t, step { mid with pc := 0xC000 } = .next t :=
  ⟨by decide, by decide, next_of_goesOn (by decide)⟩

theorem witness_NmiRequestIsLatchedAtStepEnd :
    (∃ before s : State, (ppuTicks (3 * (s.cyc - before.cyc).toNat) s).ppu.nmiReq = false) ∧
    (∃ before s : State, (ppuTicks (3 * (s.cyc - before.cyc).toNat) s).ppu.nmiReq = true) :=
  ⟨⟨mid, { mid with cyc := 9 }, by decide⟩,
   ⟨mid, { (tickBench 241 0 0x80 0) with cyc := 9 }, by decide⟩⟩

/-! ## Flags and addresses -/

theorem witness_FlagUpdatesTouchTheirOwnBits : (0 : Nat) < 8 ∧ (7 : Nat) < 8 ∧ (1 : Nat) < 8 := by decide

theorem witness_ResolverGivesTheEffectiveAddress :
    dataAddress (.zeroPageX 0xFF) mid = some ⟨0x0000, false⟩ ∧ dataAddress (.absoluteX 0xFFFF) mid = some ⟨0x0000, true⟩ ∧
    dataAddress (.indirectX 0x0F) mid = some ⟨0x1FFF, false⟩ ∧ dataAddress (.indirectY 0x10) mid = some ⟨0x2001, true⟩ ∧
    dataAddress (.zeroPageY 0xFE) mid = some ⟨0x0000, false⟩ ∧ dataAddress (.absoluteY 0x1234) mid = some ⟨0x1236, false⟩ ∧
    dataAddress (.zeroPage 0xFF) mid = some ⟨0x00FF, false⟩ ∧ dataAddress (.absolute 0xFFFF) mid = some ⟨0xFFFF, false⟩ := by
  decide

/-! ## Accesses that fault at a PPU port

$2007 with v in CHR-ROM under P_CHR_ROM_WRITE = fault for the writes (rules R121, R342); for the reads $2007 with no
cartridge (log entry 8), the one port read that faults. -/

/-- No cartridge inserted. -/
def midBare : State := { mid with cart := none }

theorem witness_port_read_faults :
    (∃ r e left, operandAddress (.ldaAbs 0x2007) midBare = some r ∧
      memRead (startPc (.ldaAbs 0x2007) midBare) r.ea midBare = .fault e left) ∧
    (∃ r e left, operandAddress (.adcAbs 0x2007) midBare = some r ∧
      memRead (startPc (.adcAbs 0x2007) midBare) r.ea midBare = .fault e left) ∧
    (∃ r e left, operandAddress (.sbcAbs 0x2007) midBare = some r ∧
      memRead (startPc (.sbcAbs 0x2007) midBare) r.ea midBare = .fault e left) ∧
    (∃ r e left, operandAddress (.bitAbs 0x2007) midBare = some r ∧
      memRead (startPc (.bitAbs 0x2007) midBare) r.ea midBare = .fault e left) ∧
    (∃ r e left, operandAddress (.cmpAbs 0x2007) midBare = some r ∧
      memRead (startPc (.cmpAbs 0x2007) midBare) r.ea midBare = .fault e left) ∧
    (∃ r e left, operandAddress (.incAbs 0x2007) midBare = some r ∧
      memRead (startPc (.incAbs 0x2007) midBare) r.ea midBare = .fault e left) ∧
    (∃ r e left, operandAddress (.aslAbs 0x2007) midBare = some r ∧
      memRead (startPc (.aslAbs 0x2007) midBare) r.ea midBare = .fault e left) ∧
    (∃ r e left, operandAddress (.dcpAbs 0x2007) midBare = some r ∧
      memRead (startPc (.dcpAbs 0x2007) midBare) r.ea midBare = .fault e left) :=
  ⟨read_fault_of (by decide), read_fault_of (by decide), read_fault_of (by decide), read_fault_of (by decide),
   read_fault_of (by decide), read_fault_of (by decide), read_fault_of (by decide), read_fault_of (by decide)⟩

theorem witness_port_store_faults :
    (∃ r e left, operandAddress (.staAbs 0x2007) midRom = some r ∧
      memWrite (startPc (.staAbs 0x2007) midRom) r.ea midRom.a midRom = .fault e left) ∧
    (∃ r e left, operandAddress (.stxAbs 0x2007) midRom = some r ∧
      memWrite (startPc (.stxAbs 0x2007) midRom) r.ea midRom.x midRom = .fault e left) ∧
    (∃ r e left, operandAddress (.styAbs 0x3FFF) midRom = some r ∧
      memWrite (startPc (.styAbs 0x3FFF) midRom) r.ea midRom.y midRom = .fault e left) ∧
    (∃ r e left, operandAddress (.saxAbs 0x2007) midRom = some r ∧
      memWrite (startPc (.saxAbs 0x2007) midRom) r.ea (midRom.a &&& midRom.x) midRom = .fault e left) :=
  ⟨store_fault_of (by decide), store_fault_of (by decide), store_fault_of (by decide), store_fault_of (by decide)⟩

theorem witness_port_modify_faults :
    (∃ r b s1 e left, operandAddress (.incAbs 0x2007) midRom = some r ∧
      memRead (startPc (.incAbs 0x2007) midRom) r.ea midRom = .ok b s1 ∧
      memWrite (startPc (.incAbs 0x2007) midRom) r.ea (b + 1) s1 = .fault e left) ∧
    (∃ r b s1 e left, operandAddress (.aslAbs 0x2007) midRom = some r ∧
      memRead (startPc (.aslAbs 0x2007) midRom) r.ea midRom = .ok b s1 ∧
      memWrite (startPc (.aslAbs 0x2007) midRom) r.ea (b <<< 1)
        { s1 with p := setFlag maskC (b.getLsbD 7) s1.p } = .fault e left) ∧
    (∃ r b s1 e left, operandAddress (.dcpAbs 0x2007) midRom = some r ∧
      memRead (startPc (.dcpAbs 0x2007) midRom) r.ea midRom = .ok b s1 ∧
      memWrite (startPc (.dcpAbs 0x2007) midRom) r.ea (b - 1) s1 = .fault e left) :=
  ⟨modify_fault_of (v := fun b _ => b + 1) (before := fun _ s => s) (by decide),
   modify_fault_of (v := fun b _ => b <<< 1) (before := fun b s => { s with p := setFlag maskC (b.getLsbD 7) s.p })
    (by decide),
   modify_fault_of (v := fun b _ => b - 1) (before := fun _ s => s) (by decide)⟩

/-! ## Instructions that read

Immediate bytes, RAM's last byte, the PPU's ports, PRG's ends; then the ends of the unmapped range. -/

theorem witness_LoadsWriteTheByteRead :
    (∃ s1, OperandByte (.ldaImm 0x42) mid 0x42 false s1) ∧ (∃ s1, OperandByte (.ldaAbs 0x1FFF) mid 0x66 false s1) ∧
    (∃ s1, OperandByte (.ldxAbs 0x3FFF) mid 0x00 false s1) ∧ (∃ s1, OperandByte (.ldyAbsX 0xBFFF) mid 0xEA true s1) ∧
    (∃ s1, OperandByte (.laxIndY 0x30) mid 0x00 true s1) ∧ (∃ s1, OperandByte (.ldaAbs 0xFFFF) mid 0xD0 false s1) ∧
    (∃ r, operandAddress (.ldaAbs 0x4000) mid = some r ∧ r.ea = 0x4000) ∧
    (∃ r, operandAddress (.laxIndX 0x1F) mid = some r ∧ r.ea = 0x7FFF) :=
  ⟨operandByte_of (by decide), operandByte_of (by decide), operandByte_of (by decide), operandByte_of (by decide),
   operandByte_of (by decide), operandByte_of (by decide), address_of (by decide), address_of (by decide)⟩

theorem witness_AdcAddsWithCarry :
    (∃ s1, OperandByte (.adcImm 0xFF) mid 0xFF false s1) ∧ (∃ s1, OperandByte (.adcIndX 0x0F) mid 0x66 false s1) ∧
    (∃ s1, OperandByte (.adcAbs 0xFFFF) mid 0xD0 false s1) ∧
    (∃ r, operandAddress (.adcAbs 0x4000) mid = some r ∧ r.ea = 0x4000) ∧
    (∃ r, operandAddress (.adcAbsX 0x7FFE) mid = some r ∧ r.ea = 0x7FFF) :=
  ⟨operandByte_of (by decide), operandByte_of (by decide), operandByte_of (by decide), address_of (by decide),
   address_of (by decide)⟩

theorem witness_SbcSubtractsWithBorrow :
    (∃ s1, OperandByte (.sbcImm 0x01) mid 0x01 false s1) ∧ (∃ s1, OperandByte (.sbcImmEB 0x80) mid 0x80 false s1) ∧
    (∃ s1, OperandByte (.sbcAbsY 0x1FFD) mid 0x66 false s1) ∧
    (∃ r, operandAddress (.sbcAbsY 0x3FFE) mid = some r ∧ r.ea = 0x4000) ∧
    (∃ r, operandAddress (.sbcAbs 0x7FFF) mid = some r ∧ r.ea = 0x7FFF) :=
  ⟨operandByte_of (by decide), operandByte_of (by decide), operandByte_of (by decide), address_of (by decide),
   address_of (by decide)⟩

theorem witness_LogicCombinesAAndBitTests :
    (∃ s1, OperandByte (.andImm 0xF0) mid 0xF0 false s1) ∧ (∃ s1, OperandByte (.oraAbs 0x8000) mid 0xEA false s1) ∧
    (∃ s1, OperandByte (.eorZpX 0x0F) mid 0xFF false s1) ∧ (∃ s1, OperandByte (.bitAbs 0x2002) mid 0x00 false s1) ∧
    (∃ r, operandAddress (.andAbs 0x4000) mid = some r ∧ r.ea = 0x4000) ∧
    (∃ r, operandAddress (.oraIndX 0x1F) mid = some r ∧ r.ea = 0x7FFF) ∧
    (∃ r, operandAddress (.eorAbs 0x4000) mid = some r ∧ r.ea = 0x4000) ∧
    (∃ r, operandAddress (.bitAbs 0x7FFF) mid = some r ∧ r.ea = 0x7FFF) :=
  ⟨operandByte_of (by decide), operandByte_of (by decide), operandByte_of (by decide), operandByte_of (by decide),
   address_of (by decide), address_of (by decide), address_of (by decide), address_of (by decide)⟩

theorem witness_ComparesSetCZN :
    (∃ s1, OperandByte (.cmpImm 0x80) mid 0x80 false s1) ∧ (∃ s1, OperandByte (.cpxZp 0x10) mid 0xFF false s1) ∧
    (∃ s1, OperandByte (.cpyAbs 0xFFFF) mid 0xD0 false s1) ∧
    (∃ r, operandAddress (.cmpAbs 0x4000) mid = some r ∧ r.ea = 0x4000) ∧
    (∃ r, operandAddress (.cpxAbs 0x7FFF) mid = some r ∧ r.ea = 0x7FFF) ∧
    (∃ r, operandAddress (.cpyAbs 0x4000) mid = some r ∧ r.ea = 0x4000) :=
  ⟨operandByte_of (by decide), operandByte_of (by decide), operandByte_of (by decide), address_of (by decide),
   address_of (by decide), address_of (by decide)⟩

/-! ## Stores and read-modify-write instructions -/

theorem witness_StoresWriteTheRegister :
    (∃ r s1, operandAddress (.staAbs 0x1FFF) mid = some r ∧ memWrite (startPc (.staAbs 0x1FFF) mid) r.ea mid.a mid = .ok () s1) ∧
    (∃ r s1, operandAddress (.stxAbs 0x2000) mid = some r ∧ memWrite (startPc (.stxAbs 0x2000) mid) r.ea mid.x mid = .ok () s1) ∧
    (∃ r s1, operandAddress (.styAbs 0x3FFF) mid = some r ∧ memWrite (startPc (.styAbs 0x3FFF) mid) r.ea mid.y mid = .ok () s1) ∧
    (∃ r s1, operandAddress (.saxIndX 0x0F) mid = some r ∧
      memWrite (startPc (.saxIndX 0x0F) mid) r.ea (mid.a &&& mid.x) mid = .ok () s1) ∧
    (∃ r, operandAddress (.staAbsX 0x3FFF) mid = some r ∧ r.ea = 0x4000) ∧
    (∃ r, operandAddress (.stxAbs 0x4000) mid = some r ∧ r.ea = 0x4000) ∧
    (∃ r, operandAddress (.styAbs 0xFFFF) mid = some r ∧ r.ea = 0xFFFF) ∧
    (∃ r, operandAddress (.saxAbs 0x8000) mid = some r ∧ r.ea = 0x8000) :=
  ⟨store_of (by decide), store_of (by decide), store_of (by decide), store_of (by decide), address_of (by decide),
   address_of (by decide), address_of (by decide), address_of (by decide)⟩

/-- RAM's last byte for each instruction, then an unmapped read and a PRG byte. -/
theorem witness_IncAndDecModifyMemory :
    (∃ r b s1 s2, operandAddress (.incAbs 0x1FFF) mid = some r ∧
      memRead (startPc (.incAbs 0x1FFF) mid) r.ea mid = .ok b s1 ∧
      memWrite (startPc (.incAbs 0x1FFF) mid) r.ea (b + 1) s1 = .ok () s2) ∧
    (∃ r b s1 s2, operandAddress (.decAbsX 0x3FFE) mid = some r ∧
      memRead (startPc (.decAbsX 0x3FFE) mid) r.ea mid = .ok b s1 ∧
      memWrite (startPc (.decAbsX 0x3FFE) mid) r.ea (b - 1) s1 = .ok () s2) ∧
    (∃ r, operandAddress (.incAbs 0x4000) mid = some r ∧ r.ea = 0x4000) ∧
    (∃ r, operandAddress (.decAbs 0x7FFF) mid = some r ∧ r.ea = 0x7FFF) ∧
    (∃ r b s1, operandAddress (.incAbs 0x8000) mid = some r ∧ 0x8000 ≤ r.ea.toNat ∧
      memRead (startPc (.incAbs 0x8000) mid) r.ea mid = .ok b s1) ∧
    (∃ r b s1, operandAddress (.decAbs 0xFFFF) mid = some r ∧ 0x8000 ≤ r.ea.toNat ∧
      memRead (startPc (.decAbs 0xFFFF) mid) r.ea mid = .ok b s1) :=
  ⟨modify_of (v := fun b _ => b + 1) (before := fun _ s => s) (by decide),
   modify_of (v := fun b _ => b - 1) (before := fun _ s => s) (by decide), address_of (by decide), address_of (by decide),
   readsPrg_of (by decide), readsPrg_of (by decide)⟩

/-- The four instructions' accumulator forms, each with a memory form that completes; then an unmapped read and PRG. -/
theorem witness_ShiftsMoveThroughCarry :
    (Instr.aslAcc.operand = .accumulator ∧ Instr.lsrAcc.operand = .accumulator ∧ Instr.rolAcc.operand = .accumulator ∧
      Instr.rorAcc.operand = .accumulator) ∧
    (∃ r b s1 s2, operandAddress (.aslAbs 0x1FFF) mid = some r ∧
      memRead (startPc (.aslAbs 0x1FFF) mid) r.ea mid = .ok b s1 ∧
      memWrite (startPc (.aslAbs 0x1FFF) mid) r.ea (b <<< 1)
        { s1 with p := setFlag maskC (b.getLsbD 7) s1.p } = .ok () s2) ∧
    (∃ r b s1 s2, operandAddress (.lsrAbs 0x2006) mid = some r ∧
      memRead (startPc (.lsrAbs 0x2006) mid) r.ea mid = .ok b s1 ∧
      memWrite (startPc (.lsrAbs 0x2006) mid) r.ea (b >>> 1)
        { s1 with p := setFlag maskC (b.getLsbD 0) s1.p } = .ok () s2) ∧
    (∃ r b s1 s2, operandAddress (.rolZpX 0xFF) mid = some r ∧
      memRead (startPc (.rolZpX 0xFF) mid) r.ea mid = .ok b s1 ∧
      memWrite (startPc (.rolZpX 0xFF) mid) r.ea (b <<< 1 ||| (if s1.p.getLsbD 0 then 0x01 else 0))
        { s1 with p := setFlag maskC (b.getLsbD 7) s1.p } = .ok () s2) ∧
    (∃ r b s1 s2, operandAddress (.rorAbsX 0x1FFE) mid = some r ∧
      memRead (startPc (.rorAbsX 0x1FFE) mid) r.ea mid = .ok b s1 ∧
      memWrite (startPc (.rorAbsX 0x1FFE) mid) r.ea (b >>> 1 ||| (if s1.p.getLsbD 0 then 0x80 else 0))
        { s1 with p := setFlag maskC (b.getLsbD 0) s1.p } = .ok () s2) ∧
    (∃ r, operandAddress (.aslAbs 0x4000) mid = some r ∧ r.ea = 0x4000) ∧
    (∃ r, operandAddress (.rorAbs 0x7FFF) mid = some r ∧ r.ea = 0x7FFF) ∧
    (∃ r b s1, operandAddress (.rolAbs 0x8000) mid = some r ∧ 0x8000 ≤ r.ea.toNat ∧
      memRead (startPc (.rolAbs 0x8000) mid) r.ea mid = .ok b s1) :=
  ⟨by decide,
   modify_of (v := fun b _ => b <<< 1) (before := fun b s => { s with p := setFlag maskC (b.getLsbD 7) s.p }) (by decide),
   modify_of (v := fun b _ => b >>> 1) (before := fun b s => { s with p := setFlag maskC (b.getLsbD 0) s.p }) (by decide),
   modify_of (v := fun b s => b <<< 1 ||| (if s.p.getLsbD 0 then 0x01 else 0))
    (before := fun b s => { s with p := setFlag maskC (b.getLsbD 7) s.p }) (by decide),
   modify_of (v := fun b s => b >>> 1 ||| (if s.p.getLsbD 0 then 0x80 else 0))
    (before := fun b s => { s with p := setFlag maskC (b.getLsbD 0) s.p }) (by decide),
   address_of (by decide), address_of (by decide), readsPrg_of (by decide)⟩

/-- Each family on a RAM byte, then an unmapped read and PRG. -/
theorem witness_CombinedOpcodesRunTwoPrimitives :
    (∃ r b s1 s2, operandAddress (.dcpAbsY 0x1FFD) mid = some r ∧
      memRead (startPc (.dcpAbsY 0x1FFD) mid) r.ea mid = .ok b s1 ∧
      memWrite (startPc (.dcpAbsY 0x1FFD) mid) r.ea (b - 1) s1 = .ok () s2) ∧
    (∃ r b s1 s2, operandAddress (.iscIndX 0x0F) mid = some r ∧
      memRead (startPc (.iscIndX 0x0F) mid) r.ea mid = .ok b s1 ∧
      memWrite (startPc (.iscIndX 0x0F) mid) r.ea (b + 1) s1 = .ok () s2) ∧
    (∃ r b s1 s2, operandAddress (.sloIndY 0x10) mid = some r ∧
      memRead (startPc (.sloIndY 0x10) mid) r.ea mid = .ok b s1 ∧
      memWrite (startPc (.sloIndY 0x10) mid) r.ea (b <<< 1)
        { s1 with p := setFlag maskC (b.getLsbD 7) s1.p } = .ok () s2) ∧
    (∃ r b s1 s2, operandAddress (.rlaZp 0x00) mid = some r ∧
      memRead (startPc (.rlaZp 0x00) mid) r.ea mid = .ok b s1 ∧
      memWrite (startPc (.rlaZp 0x00) mid) r.ea (b <<< 1 ||| (if s1.p.getLsbD 0 then 0x01 else 0))
        { s1 with p := setFlag maskC (b.getLsbD 7) s1.p } = .ok () s2) ∧
    (∃ r b s1 s2, operandAddress (.sreAbsX 0x07FE) mid = some r ∧
      memRead (startPc (.sreAbsX 0x07FE) mid) r.ea mid = .ok b s1 ∧
      memWrite (startPc (.sreAbsX 0x07FE) mid) r.ea (b >>> 1)
        { s1 with p := setFlag maskC (b.getLsbD 0) s1.p } = .ok () s2) ∧
    (∃ r b s1 s2, operandAddress (.rraZpX 0x0F) mid = some r ∧
      memRead (startPc (.rraZpX 0x0F) mid) r.ea mid = .ok b s1 ∧
      memWrite (startPc (.rraZpX 0x0F) mid) r.ea (b >>> 1 ||| (if s1.p.getLsbD 0 then 0x80 else 0))
        { s1 with p := setFlag maskC (b.getLsbD 0) s1.p } = .ok () s2) ∧
    (∃ r, operandAddress (.dcpAbs 0x4000) mid = some r ∧ r.ea = 0x4000) ∧
    (∃ r, operandAddress (.iscIndX 0x1F) mid = some r ∧ r.ea = 0x7FFF) ∧
    (∃ r b s1, operandAddress (.sloAbs 0x8000) mid = some r ∧ 0x8000 ≤ r.ea.toNat ∧
      memRead (startPc (.sloAbs 0x8000) mid) r.ea mid = .ok b s1) :=
  ⟨modify_of (v := fun b _ => b - 1) (before := fun _ s => s) (by decide),
   modify_of (v := fun b _ => b + 1) (before := fun _ s => s) (by decide),
   modify_of (v := fun b _ => b <<< 1) (before := fun b s => { s with p := setFlag maskC (b.getLsbD 7) s.p }) (by decide),
   modify_of (v := fun b s => b <<< 1 ||| (if s.p.getLsbD 0 then 0x01 else 0))
    (before := fun b s => { s with p := setFlag maskC (b.getLsbD 7) s.p }) (by decide),
   modify_of (v := fun b _ => b >>> 1) (before := fun b s => { s with p := setFlag maskC (b.getLsbD 0) s.p }) (by decide),
   modify_of (v := fun b s => b >>> 1 ||| (if s.p.getLsbD 0 then 0x80 else 0))
    (before := fun b s => { s with p := setFlag maskC (b.getLsbD 0) s.p }) (by decide),
   address_of (by decide), address_of (by decide), readsPrg_of (by decide)⟩

/-! ## Registers, control flow, stack -/

theorem witness_TransfersCopyARegister :
    Instr.tax.mnemonic = .tax ∧ Instr.tay.mnemonic = .tay ∧ Instr.tsx.mnemonic = .tsx ∧ Instr.txa.mnemonic = .txa ∧
    Instr.txs.mnemonic = .txs ∧ Instr.tya.mnemonic = .tya := by decide

theorem witness_IndexRegistersStepByOne :
    Instr.inx.mnemonic = .inx ∧ Instr.iny.mnemonic = .iny ∧ Instr.dex.mnemonic = .dex ∧ Instr.dey.mnemonic = .dey := by decide

theorem witness_FlagInstructionsSetOneBit :
    Instr.clc.mnemonic = .clc ∧ Instr.sec.mnemonic = .sec ∧ Instr.cli.mnemonic = .cli ∧ Instr.sei.mnemonic = .sei ∧
    Instr.cld.mnemonic = .cld ∧ Instr.sed.mnemonic = .sed ∧ Instr.clv.mnemonic = .clv := by decide

theorem witness_BranchesTestOneFlag :
    ((Instr.bne (-128)).mnemonic = .bne ∧ (Instr.bne (-128)).operand = .relative (-128) ∧ mid.p.getLsbD 1 = false) ∧
    ((Instr.bcs 127).mnemonic = .bcs ∧ (Instr.bcs 127).operand = .relative 127 ∧ mid.p.getLsbD 0 ≠ true) ∧
    ((Instr.bcc 0).mnemonic = .bcc ∧ (Instr.bcc 0).operand = .relative 0 ∧
      mid.pc.extractLsb' 8 8 = (mid.pc + BitVec.ofInt 16 0).extractLsb' 8 8) ∧
    ((Instr.bpl (-4)).operand = .relative (-4) ∧
      mid.pc.extractLsb' 8 8 ≠ (mid.pc + BitVec.ofInt 16 (-4)).extractLsb' 8 8) ∧
    ((Instr.beq 1).operand = .relative 1 ∧ (Instr.bmi 1).operand = .relative 1 ∧ (Instr.bvc 1).operand = .relative 1 ∧
      (Instr.bvs 1).operand = .relative 1) := by decide

theorem witness_JmpLoadsPc :
    (∃ lo hi s1 s2, memRead (mid.pc - 3) 0x1FFF mid = .ok lo s1 ∧
      memRead (mid.pc - 3) ((0x1FFF : Word).extractLsb' 8 8 ++ ((0x1FFF : Word).extractLsb' 0 8 + 1)) s1 = .ok hi s2) ∧
    (0x4000 ≤ (0x4000 : Word).toNat ∧ (0x4000 : Word).toNat < 0x8000) ∧
    (0x4000 ≤ (0x7FFF : Word).toNat ∧ (0x7FFF : Word).toNat < 0x8000) :=
  ⟨⟨0x66, 0x00, mid, mid, by decide, by decide⟩, by decide, by decide⟩

theorem witness_BrkEntersAndRtiReturns : mid.vector 0xFFFE = some 0xD000 := by decide

theorem witness_NopsChangeNothingButCyc :
    (Instr.nop.mnemonic = .nop ∧ Instr.nop.operand.mode = .implied) ∧
    ((Instr.nopImm80 0xFF).mnemonic = .nop ∧ (Instr.nopImm80 0xFF).operand.mode = .immediate) ∧
    ((Instr.nopAbsX1C 0x02FF).mnemonic = .nop ∧ operandAddress (.nopAbsX1C 0x02FF) mid = some ⟨0x0300, true⟩) ∧
    ((Instr.nopAbs0C 0x4016).mnemonic = .nop ∧ operandAddress (.nopAbs0C 0x4016) mid = some ⟨0x4016, false⟩) := by decide

theorem witness_StackRoundTrips : mid.ram.wf 0x800 = true ∧ mid.cart.isSome = true := by decide

/-! ## Frames over all instructions -/

theorem witness_RegistersChangeOnlyByTheirWriters :
    ((∃ t, exec (.aslZp 0x10) mid = .next t) ∧ Mnemonic.asl ∈ [Mnemonic.asl, .lsr, .rol, .ror] ∧
      (Instr.aslZp 0x10).operand ≠ .accumulator ∧ Mnemonic.asl ∉ writesX ∧ Mnemonic.asl ∉ writesY ∧
      Mnemonic.asl ∉ writesS) ∧
    ((∃ t, exec (.staAbs 0x2007) mid = .next t) ∧ Mnemonic.sta ∉ writesA) ∧
    (∃ t, service .nmi mid = .ok () t) ∧ (∃ t, service .reset mid = .ok () t) :=
  ⟨⟨next_of_goesOn (by decide), by decide, by decide, by decide, by decide, by decide⟩,
   ⟨next_of_goesOn (by decide), by decide⟩, ok_unit_of_completes (by decide), ok_unit_of_completes (by decide)⟩

theorem witness_FlagsChangeOnlyByTheirWriters :
    (∃ t, exec (.staAbs 0x2007) mid = .next t) ∧
    (Mnemonic.sta ∉ writesC ∧ Mnemonic.sta ∉ writesNZ ∧ Mnemonic.sta ∉ writesI ∧ Mnemonic.sta ∉ writesD ∧
      Mnemonic.sta ∉ writesV) ∧
    mid.p &&& 0x30 = 0x20 ∧ (∃ t, exec .plp mid = .next t) :=
  ⟨next_of_goesOn (by decide), by decide, by decide, next_of_goesOn (by decide)⟩

theorem witness_OnlyStoresChangeMemory :
    ((∃ t, exec (.ldaAbs 0x2007) mid = .next t) ∧ Mnemonic.lda ∉ writesMemory ∧ Mnemonic.lda ∉ writesPc) ∧
    ((∃ t, exec .aslAcc mid = .next t) ∧ Instr.aslAcc.operand = .accumulator) :=
  ⟨⟨next_of_goesOn (by decide), by decide, by decide⟩, next_of_goesOn (by decide), by decide⟩

/-- A store to RAM's last byte, one to the PPU's first port, and the four pushing instructions, with S at 0 so that the
slots wrap. -/
theorem witness_StoresChangeOnlyTheirBytes :
    mid.ram.wf 0x800 = true ∧
    (Mnemonic.sta ∈ writesMemory ∧ (∃ r, operandAddress (.staAbs 0x1FFF) mid = some r ∧ r.ea = 0x1FFF) ∧
      Mnemonic.sta ≠ .jsr ∧ ∃ t, exec (.staAbs 0x1FFF) mid = .next t) ∧
    (Mnemonic.stx ∈ writesMemory ∧ (∃ r, operandAddress (.stxAbs 0x2000) mid = some r ∧ r.ea = 0x2000) ∧
      ∃ t, exec (.stxAbs 0x2000) mid = .next t) ∧
    ((∃ t, exec .pha { mid with sp := 0 } = .next t) ∧ (∃ t, exec .php { mid with sp := 0 } = .next t) ∧
      (∃ t, exec (.jsr 0xC100) { mid with sp := 0 } = .next t) ∧ ∃ t, exec .brk { mid with sp := 1 } = .next t) :=
  ⟨by decide, ⟨by decide, address_of (by decide), by decide, next_of_goesOn (by decide)⟩,
   ⟨by decide, address_of (by decide), next_of_goesOn (by decide)⟩,
   next_of_goesOn (by decide), next_of_goesOn (by decide), next_of_goesOn (by decide), next_of_goesOn (by decide)⟩

theorem witness_DecimalFlagAffectsNothingElse :
    Mnemonic.adc ∉ [Mnemonic.sed, .cld, .plp, .rti, .php, .brk] ∧ ∃ t, exec (.adcImm 0x09) mid = .next t :=
  ⟨by decide, next_of_goesOn (by decide)⟩

/-- A read form that crosses a page and one that does not, a store and a read-modify-write form that cross one for no
cycle; a branch not taken, taken within the page and taken across it. -/
theorem witness_CyclesAreBasePlusPenalty :
    ((∃ t, exec (.ldaAbsX 0xBFFF) mid = .next t) ∧ (Instr.ldaAbsX 0xBFFF).operand.mode ≠ .relative ∧
      (Instr.ldaAbsX 0xBFFF).entry.pageCrossAddsCycle = true ∧ operandCrosses (.ldaAbsX 0xBFFF) mid = true) ∧
    ((∃ t, exec (.ldaAbsX 0xBFFE) mid = .next t) ∧ operandCrosses (.ldaAbsX 0xBFFE) mid = false) ∧
    ((∃ t, exec (.staIndY 0x10) mid = .next t) ∧ operandCrosses (.staIndY 0x10) mid = true) ∧
    ((∃ t, exec (.incAbsX 0x01FF) mid = .next t) ∧ operandCrosses (.incAbsX 0x01FF) mid = true) ∧
    ((∃ t, exec (.bcs 127) mid = .next t) ∧ (Mnemonic.bcs, 0, true) ∈ branchTests ∧
      (Instr.bcs 127).operand = .relative 127 ∧ mid.p.getLsbD 0 ≠ true) ∧
    ((∃ t, exec (.bcc 0) mid = .next t) ∧ (Mnemonic.bcc, 0, false) ∈ branchTests ∧
      (Instr.bcc 0).operand = .relative 0 ∧ mid.p.getLsbD 0 = false) ∧
    ((∃ t, exec (.bne (-128)) mid = .next t) ∧ (Mnemonic.bne, 1, false) ∈ branchTests ∧
      mid.pc.extractLsb' 8 8 ≠ (mid.pc + BitVec.ofInt 16 (-128)).extractLsb' 8 8) :=
  ⟨⟨next_of_goesOn (by decide), by decide, by decide, by decide⟩, ⟨next_of_goesOn (by decide), by decide⟩,
   ⟨next_of_goesOn (by decide), by decide⟩, ⟨next_of_goesOn (by decide), by decide⟩,
   ⟨next_of_goesOn (by decide), by decide, by decide, by decide⟩,
   ⟨next_of_goesOn (by decide), by decide, by decide, by decide⟩,
   ⟨next_of_goesOn (by decide), by decide, by decide⟩⟩

/-! ## Invariants -/

theorem witness_PowerUpMeetsTheInvariant :
    (testCart 0xC000 [0xEA]).wf ∧ Memory.wf 0x800 [(0x7FF, 1)] = true ∧ Memory.wf 0x800 [(0, 1)] = true ∧
    Memory.wf 0x100 [(0xFF, 1)] = true ∧ Memory.wf 0x20 [(0x1F, 1)] = true := by decide

theorem witness_EveryStepKeepsTheInvariant :
    ({ mid with pc := 0xC000 } : State).Inv ∧ ∃ t, step { mid with pc := 0xC000 } = .next t :=
  ⟨by decide, next_of_goesOn (by decide)⟩

theorem witness_BreakAndUnusedBitsNeverChange :
    mid.p &&& 0x30 = 0x20 ∧ mid.ram.wf 0x800 = true ∧ (∃ t, step { mid with pc := 0xC000 } = .next t) ∧
    (∃ t, exec .php mid = .next t) ∧ (∃ t, exec .brk mid = .next t) :=
  ⟨by decide, by decide, next_of_goesOn (by decide), next_of_goesOn (by decide), next_of_goesOn (by decide)⟩

theorem witness_NoStepChangesRomOrParameters :
    (∃ t, step { midRom with pc := 0x0010, ram := [(0x10, 0xEA)] } = .next t) ∧
    (testCart 0xC000 []).chrIsRam = true ∧ (midRom.cart.map fun c => c.chrIsRam) = some false :=
  ⟨next_of_goesOn (by decide), by decide, by decide⟩

theorem witness_StepStopsOnlyWithItsFaults :
    mid.running = true ∧ (bench 0x4000 []).running = true ∧
    ({ mid with fault := some (.decode 0x02 0xC000) } : State).fault = some (.decode 0x02 0xC000) ∧
    ({ State.reset with fault := some (.bus .read 0x4016 0xC000) } : State).fault = some (.bus .read 0x4016 0xC000) ∧
    (State.reset.fault = none ∧ State.reset.cart = none) := by decide

/-! ## The cartridge -/

/-- An image of the smallest accepted length: a header for one PRG unit, then zeros. -/
def smallImage : List Byte :=
  [0x4E, 0x45, 0x53, 0x1A, 1, 0, 1, 0, 0, 0, 0, 0, 0, 0, 0, 0] ++ List.replicate 16384 0

theorem smallImage_byte (k : Nat) (h : k < 16) :
    smallImage.getD k 0 = ([0x4E, 0x45, 0x53, 0x1A, 1, 0, 1, 0, 0, 0, 0, 0, 0, 0, 0, 0] : List Byte).getD k 0 := by
  simp only [smallImage, List.getD_eq_getElem?_getD]
  rw [List.getElem?_append_left (by simpa using h)]

theorem witness_AcceptedImagesAreSliced :
    State.reset.cyc = 0 ∧ State.reset.fault = none ∧
    (16 ≤ smallImage.length ∧ smallImage.take 4 = [0x4E, 0x45, 0x53, 0x1A] ∧ (smallImage.getD 4 0).toNat = 1 ∧
      (smallImage.getD 6 0).getLsbD 3 = false ∧
      (smallImage.getD 7 0 &&& 0xF0) ||| (smallImage.getD 6 0 >>> 4) = 0 ∧
      16 + (if (smallImage.getD 6 0).getLsbD 2 then 512 else 0) + 16384 * (smallImage.getD 4 0).toNat +
        8192 * (smallImage.getD 5 0).toNat ≤ smallImage.length) ∧
    ¬ 16 ≤ ([0x4E, 0x45, 0x53, 0x1A] : List Byte).length := by
  have hl : smallImage.length = 16400 := by simp [smallImage, -List.reduceReplicate]
  rw [smallImage_byte 4 (by decide), smallImage_byte 5 (by decide), smallImage_byte 6 (by decide),
    smallImage_byte 7 (by decide), hl]
  refine ⟨by decide, by decide, ⟨by decide, ?_, by decide, by decide, by decide, by decide⟩, by decide⟩
  rfl

end

end Sys2Proof.Tests
end

section
/-! SUPPORT. Flag updates of P, bit by bit (10_state.md rule R34, 00_scope.md rule R18). -/

namespace Sys2Proof.Machine

/-- Bit `j` alone is set in its mask. -/
theorem getLsbD_one_shiftLeft {k : Nat} (j : Nat) (hk : k < 8) : ((1 : Byte) <<< j).getLsbD k = decide (k = j) := by
  change (BitVec.twoPow 8 j).getLsbD k = _
  rw [BitVec.getLsbD_twoPow, ← Bool.decide_and, decide_eq_decide]
  omega

/-- Setting or clearing flag `j` gives bit `j` the new value and keeps the others. -/
theorem getLsbD_setFlag {k : Nat} (p : Byte) (on : Bool) (j : Nat) (hk : k < 8) :
    (setFlag ((1 : Byte) <<< j) on p).getLsbD k = if k = j then on else p.getLsbD k := by
  cases on with
  | true =>
    rw [setFlag, if_pos rfl, BitVec.getLsbD_or, getLsbD_one_shiftLeft j hk]
    by_cases h : k = j <;> simp [h]
  | false =>
    rw [setFlag, if_neg Bool.false_ne_true, BitVec.getLsbD_and, BitVec.getLsbD_not, getLsbD_one_shiftLeft j hk]
    by_cases h : k = j
    · simp [h]
    · simp [h, hk]

/-- SetNZ is the update of flag 1, then of flag 7. -/
theorem getLsbD_setNZ {k : Nat} (v p : Byte) (hk : k < 8) :
    (setNZ v p).getLsbD k = if k = 1 then v == 0 else if k = 7 then v.getLsbD 7 else p.getLsbD k := by
  have hN : maskN = (1 : Byte) <<< 7 := by decide
  have hZ : maskZ = (1 : Byte) <<< 1 := by decide
  rw [setNZ, hN, hZ, getLsbD_setFlag _ _ 7 hk, getLsbD_setFlag _ _ 1 hk, BitVec.msb_eq_getLsbD_last]
  by_cases h : k = 1
  · simp [h]
  · simp only [if_neg h]

/-- Settles O27: each update is one of `setFlag` with a one-bit mask. -/
theorem flagUpdatesTouchTheirOwnBits : Obligations.FlagUpdatesTouchTheirOwnBits := by
  unfold Obligations.FlagUpdatesTouchTheirOwnBits
  exact ⟨fun v p _ hk => getLsbD_setNZ v p hk, fun p on _ j hk _ => getLsbD_setFlag p on j hk, by decide⟩

end Sys2Proof.Machine
end

section
/-! SUPPORT. The PPU's dot and scanline: no operation of the CPU moves them. -/

namespace Sys2Proof.Machine

/-- The PPU's place in the frame as its two counters (10_state.md rule R48). -/
def Ppu.counters (p : Ppu) : Nat × Nat := (p.dot, p.scanline)

/-- Where a result is a value, its state has the PPU's counters at `pos`. -/
structure EndsAt {α : Type} (pos : Nat × Nat) (r : Result α) : Prop where
  counters : ∀ a t, r = .ok a t → t.ppu.counters = pos

theorem EndsAt.ok {α : Type} {pos : Nat × Nat} {s : State} (a : α) (h : s.ppu.counters = pos) :
    EndsAt pos (Result.ok a s) := ⟨fun _ _ k => by cases k; exact h⟩

theorem EndsAt.fault {α : Type} (pos : Nat × Nat) (e : FaultRecord) (s : State) :
    EndsAt pos (Result.fault e s : Result α) := ⟨fun _ _ k => nomatch k⟩

theorem EndsAt.bind {α β : Type} {pos : Nat × Nat} {r : Result α} {k : α → State → Result β} (h : EndsAt pos r)
    (h' : ∀ a s, s.ppu.counters = pos → EndsAt pos (k a s)) : EndsAt pos (r.bind k) := by
  refine ⟨fun b t hb => ?_⟩
  obtain ⟨a, s, ha, hk⟩ := Result.bind_eq_ok.mp hb
  exact (h' a s (h.counters a s ha)).counters b t hk

/-- Where an outcome is a next state, that state has the PPU's counters at `pos`. -/
structure NextAt (pos : Nat × Nat) (o : Out) : Prop where
  counters : ∀ t, o = .next t → t.ppu.counters = pos

theorem NextAt.next {pos : Nat × Nat} {s : State} (h : s.ppu.counters = pos) : NextAt pos (.next s) :=
  ⟨fun _ k => by cases k; exact h⟩

theorem NextAt.refused (pos : Nat × Nat) (r : Refusal) : NextAt pos (.refused r) := ⟨fun _ k => nomatch k⟩

theorem NextAt.of_result {pos : Nat × Nat} {r : Result Unit} (h : EndsAt pos r) : NextAt pos r.toOutcome :=
  ⟨fun t k => h.counters () t (Result.toOutcome_eq_next.mp k)⟩

/-! ## The buses -/

section
variable {pos : Nat × Nat} {s : State} (h : s.ppu.counters = pos)
include h

theorem memRead_endsAt (pc0 a : Word) : EndsAt pos (memRead pc0 a s) := by
  refine ⟨fun b t k => ?_⟩
  obtain ⟨_, _, _, _, _, rfl, -⟩ := memRead_ok k
  exact h

theorem ppuWrite_endsAt (pc0 : Word) (a : BitVec 14) (d : Byte) : EndsAt pos (ppuWrite pc0 a d s) := by
  refine ⟨fun _ t k => ?_⟩
  rcases ppuWrite_ok k with rfl | ⟨_, _, _, _, rfl⟩ | ⟨_, _, rfl⟩ | rfl <;> exact h

theorem writePort_endsAt (pc0 : Word) (port : PpuPort) (d : Byte) : EndsAt pos (writePort pc0 port d s) := by
  cases port with
  | data => exact .bind (ppuWrite_endsAt h ..) fun _ _ k => .ok _ k
  | ctrl => exact .ok _ h
  | mask => exact .ok _ h
  | status => exact .ok _ h
  | oamAddr => exact .ok _ h
  | oamData => exact .ok _ h
  | scroll => refine .ok _ ?_; simp only [Ppu.writeScroll]; split <;> exact h
  | addr => refine .ok _ ?_; simp only [Ppu.writeAddr]; split <;> exact h

theorem memWrite_endsAt (pc0 a : Word) (d : Byte) : EndsAt pos (memWrite pc0 a d s) := by
  unfold memWrite
  split
  · exact .ok _ h
  · split
    · exact writePort_endsAt h ..
    · exact .fault ..

theorem read16_endsAt (pc0 a : Word) : EndsAt pos (read16 pc0 a s) :=
  .bind (memRead_endsAt h ..) fun _ _ k => .bind (memRead_endsAt k ..) fun _ _ k => .ok _ k

theorem resolve_endsAt (pc0 : Word) (m : MemOperand) : EndsAt pos (resolve pc0 m s) := by
  cases m with
  | indirect ptr =>
    exact .bind (memRead_endsAt h ..) fun _ _ k => .bind (memRead_endsAt k ..) fun _ _ k => .ok _ k
  | indirectX zp => simp only [resolve, read16Zp_eq, Result.bind_ok]; exact .ok _ h
  | indirectY zp => simp only [resolve, read16Zp_eq, Result.bind_ok]; exact .ok _ h
  | zeroPage zp => exact .ok _ h
  | zeroPageX zp => exact .ok _ h
  | zeroPageY zp => exact .ok _ h
  | absolute addr => exact .ok _ h
  | absoluteX addr => exact .ok _ h
  | absoluteY addr => exact .ok _ h

theorem readSource_endsAt (pc0 : Word) (src : Source) : EndsAt pos (readSource pc0 src s) := by
  cases src with
  | imm b => exact .ok _ h
  | mem m => exact .bind (resolve_endsAt h ..) fun _ _ k => .bind (memRead_endsAt k ..) fun _ _ k => .ok _ k

/-! ## Interrupts and the fetch -/

theorem enterInterrupt_endsAt (pc0 ret vector : Word) (b : Byte) : EndsAt pos (enterInterrupt pc0 ret b vector s) := by
  simp only [enterInterrupt, push16_eq, push_eq, Result.bind_ok]
  exact .bind (read16_endsAt (by exact h) ..) fun _ _ k => .ok _ k

theorem service_endsAt (kind : Interrupt) : EndsAt pos (service kind s) := by
  cases kind with
  | irq => exact .bind (enterInterrupt_endsAt h ..) fun _ _ k => .ok _ k
  | nmi => exact .bind (enterInterrupt_endsAt h ..) fun _ _ k => .ok _ k
  | reset => exact .bind (read16_endsAt (by exact h) ..) fun _ _ k => .ok _ k

theorem fetchOperand_endsAt (pc0 : Word) (form : Form) : EndsAt pos (fetchOperand pc0 form s) := by
  cases form with
  | implied i => exact .ok _ h
  | unread f => exact .ok _ h
  | immediate f => exact .bind (memRead_endsAt (by exact h) ..) fun _ _ k => .ok _ k
  | byte f => exact .bind (memRead_endsAt h ..) fun _ _ k => .ok _ k
  | relative f => exact .bind (memRead_endsAt h ..) fun _ _ k => .ok _ k
  | word f => exact .bind (read16_endsAt h ..) fun _ _ k => .ok _ k

theorem fetchInstr_endsAt : EndsAt pos (fetchInstr s) := by
  refine .bind (memRead_endsAt h ..) fun b s1 k => ?_
  split
  · exact .fault ..
  · exact fetchOperand_endsAt (by exact k) ..

end

/-! ## Instructions -/

/-- A handler's own effects leave the PPU's counters alone; its bus accesses are not part of this. -/
def Handler.KeepsCounters : Handler → Prop
  | .implied effect => ∀ s, (effect s).ppu.counters = s.ppu.counters
  | .stack effect => ∀ pc0 s, EndsAt s.ppu.counters (effect pc0 s)
  | .read effect => ∀ b s, (effect b s).ppu.counters = s.ppu.counters
  | .store _ => True
  | .rmw op => ∀ b s, (op.before b s).ppu.counters = s.ppu.counters ∧ (op.after b s).ppu.counters = s.ppu.counters
  | .branch _ _ => True
  | .jump => True
  | .call => True
  | .nop => True

/-- Every mnemonic's effects are on the CPU's registers and the stack (40_addressing.md rule R195). -/
theorem handlerOf_keepsCounters (m : Mnemonic) : (handlerOf m).KeepsCounters := by
  cases m
  case rts => exact fun _ _ => by simp only [rtsEffect, pull16_eq, Result.bind_ok]; exact .ok _ rfl
  case brk => exact fun _ _ => enterInterrupt_endsAt rfl ..
  case rti => exact fun _ _ => by simp only [rtiEffect, returnFromInterrupt_eq]; exact .ok _ rfl
  case pha => exact fun _ _ => by simp only [phaEffect, push_eq]; exact .ok _ rfl
  case php => exact fun _ _ => by simp only [phpEffect, push_eq]; exact .ok _ rfl
  case pla => exact fun _ _ => by simp only [plaEffect, pull_eq, Result.bind_ok]; exact .ok _ rfl
  case plp => exact fun _ _ => by simp only [plpEffect, pull_eq, Result.bind_ok]; exact .ok _ rfl
  case tax | tay | tsx | txa | txs | tya | inx | iny | dex | dey | clc | sec | cli | sei | cld | sed | clv =>
    exact fun _ => rfl
  case lda | ldx | ldy | adc | sbc | and | ora | eor | bit | cmp | cpx | cpy | lax => exact fun _ _ => rfl
  case inc | dec | asl | lsr | rol | ror | dcp | isc | slo | rla | sre | rra => exact fun _ _ => ⟨rfl, rfl⟩
  all_goals exact trivial

/-- A handler that keeps the counters keeps them on every operand, through its bus accesses and its charge. -/
theorem Handler.run_nextAt {h : Handler} (hk : h.KeepsCounters) (i : Instr) (o : Operand) (s : State) :
    NextAt s.ppu.counters (h.run i o s) := by
  unfold Handler.run
  split
  · exact .next (hk s)
  · exact .of_result (.bind (hk _ s) fun _ _ k => .ok _ k)
  · exact .of_result (.bind (readSource_endsAt rfl ..) fun _ _ k => .ok _ ((hk _ _).trans k))
  · exact .of_result (.bind (readSource_endsAt rfl ..) fun _ _ k => .ok _ ((hk _ _).trans k))
  · exact .of_result (.bind (resolve_endsAt rfl ..) fun _ _ k =>
      .bind (memWrite_endsAt k ..) fun _ _ k => .ok _ k)
  · exact .next ((hk _ _).2.trans (hk _ s).1)
  · exact .of_result (.bind (resolve_endsAt rfl ..) fun _ _ k => .bind (memRead_endsAt k ..) fun _ _ k =>
      .bind (memWrite_endsAt ((hk _ _).1.trans k) ..) fun _ _ k => .ok _ ((hk _ _).2.trans k))
  · unfold runBranch
    simp only
    split <;> exact .next rfl
  · exact .of_result (.bind (resolve_endsAt rfl ..) fun _ _ k => .ok _ k)
  · refine .of_result (.bind ?_ fun _ _ k => .ok _ k)
    simp only [jsrEffect, push16_eq, Result.bind_ok]; exact .ok _ rfl
  · exact .next rfl
  · exact .next rfl
  · exact .of_result (.bind (resolve_endsAt rfl ..) fun _ _ k => .ok _ k)
  · exact .refused ..

/-- No instruction moves the PPU's counters. -/
theorem exec_counters {i : Instr} {s t : State} (h : exec i s = .next t) : t.ppu.counters = s.ppu.counters := by
  rw [exec_eq_perform] at h
  exact (Handler.run_nextAt (handlerOf_keepsCounters i.mnemonic) i i.operand s).counters t h

/-- A step is a CPU part that leaves the PPU's counters alone, then the PPU's ticks (60_exceptions.md rule R372). -/
theorem step_afterCpu {s t : State} (h : step s = .next t) :
    ∃ s1, t = afterCpu s s1 ∧ s1.ppu.counters = s.ppu.counters := by
  obtain ⟨-, -, s1, ht, ⟨kind, -, hk⟩ | ⟨-, i, u, hf, he⟩⟩ := step_next h
  · exact ⟨s1, ht, (service_endsAt rfl kind).counters _ _ hk⟩
  · exact ⟨s1, ht, (exec_counters he).trans ((fetchInstr_endsAt rfl).counters _ _ hf)⟩

end Sys2Proof.Machine
end

section
/-! SUPPORT. The PPU's ticks move its place in the frame one dot each, modulo a frame (rules R48, R360). -/

namespace Sys2Proof.Machine

/-- The counters' range (10_state.md rule R48). -/
def Ppu.InRange (p : Ppu) : Prop := p.dot ≤ 340 ∧ p.scanline ≤ 261

theorem Ppu.InRange.of_counters {p q : Ppu} (h : q.counters = p.counters) (hp : p.InRange) : q.InRange := by
  obtain ⟨hd, hs⟩ := Prod.mk.inj h
  rw [Ppu.InRange, hd, hs]; exact hp

theorem Ppu.framePosition_of_counters {p q : Ppu} (h : q.counters = p.counters) : q.framePosition = p.framePosition := by
  obtain ⟨hd, hs⟩ := Prod.mk.inj h
  rw [Ppu.framePosition, Ppu.framePosition, hd, hs]

/-- The counters one dot on, in range, stand one dot further in the frame: at the end of a line in the next one, at the
end of the last line back at (0, 0). -/
theorem Ppu.advance_position {p : Ppu} (h : p.InRange) :
    p.advance.InRange ∧ p.advance.framePosition = (p.framePosition + 1) % frameDots := by
  obtain ⟨hd, hs⟩ := h
  unfold Ppu.InRange Ppu.framePosition frameDots Ppu.advance
  by_cases lineEnd : p.dot + 1 = 341
  · by_cases frameEnd : p.scanline + 1 = 262
    · simp only [if_pos lineEnd, if_pos frameEnd]; omega
    · simp only [if_pos lineEnd, if_neg frameEnd]; omega
  · simp only [if_neg lineEnd]; omega

@[simp] theorem Ppu.events_counters (p : Ppu) : p.events.counters = p.counters := by
  unfold Ppu.events
  repeat' split
  all_goals rfl

@[simp] theorem drawSpriteFlags_counters (s : State) : (drawSpriteFlags s).ppu.counters = s.ppu.counters := by
  unfold drawSpriteFlags
  repeat' split
  all_goals rfl

/-- The events of a dot and the sprite flags do not move the counters. -/
theorem ppuTick_counters (s : State) : (ppuTick s).ppu.counters = s.ppu.advance.counters := by
  simp only [ppuTick, drawSpriteFlags_counters, Ppu.events_counters]

theorem ppuTick_position {s : State} (h : s.ppu.InRange) :
    (ppuTick s).ppu.InRange ∧ (ppuTick s).ppu.framePosition = (s.ppu.framePosition + 1) % frameDots := by
  obtain ⟨hr, hp⟩ := Ppu.advance_position h
  exact ⟨.of_counters (ppuTick_counters s) hr, (Ppu.framePosition_of_counters (ppuTick_counters s)).trans hp⟩

theorem Ppu.InRange.framePosition_lt {p : Ppu} (h : p.InRange) : p.framePosition < frameDots := by
  obtain ⟨hd, hs⟩ := h
  unfold Ppu.framePosition frameDots
  omega

/-- `n` ticks keep the counters in range and move the frame position by `n` dots. -/
theorem ppuTicks_position {s : State} (h : s.ppu.InRange) (n : Nat) :
    (ppuTicks n s).ppu.InRange ∧ (ppuTicks n s).ppu.framePosition = (s.ppu.framePosition + n) % frameDots := by
  induction n generalizing s with
  | zero => exact ⟨h, by rw [ppuTicks, Nat.add_zero, Nat.mod_eq_of_lt h.framePosition_lt]⟩
  | succ n ih =>
    obtain ⟨hr, hp⟩ := ppuTick_position h
    obtain ⟨hr', hp'⟩ := ih hr
    refine ⟨hr', hp'.trans ?_⟩
    rw [hp, Nat.mod_add_mod, Nat.add_assoc, Nat.add_comm 1 n]

@[simp] theorem latchNmi_counters (s : State) : (latchNmi s).ppu.counters = s.ppu.counters := by
  unfold latchNmi
  split
  · rw [State.raise_eq]; rfl
  · rfl

@[simp] theorem afterCpu_cyc (before s : State) : (afterCpu before s).cyc = s.cyc := by
  obtain ⟨_, _, _, _, _, e⟩ := afterCpu_eq before s
  rw [e]

/-- The console's part of a step moves the frame position three dots for each cycle `CYC` has advanced. -/
theorem afterCpu_framePosition {before s : State} (h : s.ppu.InRange) :
    (afterCpu before s).ppu.framePosition = (s.ppu.framePosition + 3 * cyclesElapsed before s) % frameDots :=
  (Ppu.framePosition_of_counters (latchNmi_counters _)).trans (ppuTicks_position h _).2

/-- Settles O25: the CPU's part of a step leaves the PPU's counters where they were, and the ticks that follow it are
three for each cycle it charged. -/
theorem stepTicksThreeDotsPerCycle : Obligations.StepTicksThreeDotsPerCycle := by
  unfold Obligations.StepTicksThreeDotsPerCycle
  intro s t hd hs h
  obtain ⟨s1, rfl, hc⟩ := step_afterCpu h
  rw [afterCpu_framePosition (.of_counters hc ⟨hd, hs⟩), Ppu.framePosition_of_counters hc, afterCpu_cyc, cyclesElapsed]

end Sys2Proof.Machine
end

section
/-! SUPPORT. What an operation changes: the registers and flags it names, nothing else of the CPU's, no ROM and no
parameter, and nothing of the memories' and the PPU's well-formedness (10_state.md rules R30 to R37, R52, R54). -/

namespace Sys2Proof.Machine

/-! ## Registers, and what an operation keeps -/

/-- A register of the CPU, or one flag of P by its bit (10_state.md rules R30, R31, R34). -/
inductive Register where
  | a | x | y | sp
  | flag (k : Fin 8)
  deriving DecidableEq

/-- The flags of P. -/
abbrev flags : List Register := (List.finRange 8).map .flag

/-- Two states hold the same value in a register. -/
def Register.Same (s t : State) : Register → Prop
  | .a => t.a = s.a
  | .x => t.x = s.x
  | .y => t.y = s.y
  | .sp => t.sp = s.sp
  | .flag k => t.p.getLsbD k = s.p.getLsbD k

/-- What of a cartridge is fixed: all but the contents of CHR-RAM (rules R52, R84). -/
structure Cartridge.SameRom (c d : Cartridge) : Prop where
  prg : d.prg = c.prg
  prgSize : d.prgSize = c.prgSize
  mirroring : d.mirroring = c.mirroring
  chrIsRam : d.chrIsRam = c.chrIsRam
  chrLen : d.chrLen = c.chrLen
  chr : c.chrIsRam = false → d.chr = c.chr

theorem Cartridge.SameRom.refl (c : Cartridge) : c.SameRom c := ⟨rfl, rfl, rfl, rfl, rfl, fun _ => rfl⟩

theorem Cartridge.SameRom.trans {c d e : Cartridge} (h : c.SameRom d) (k : d.SameRom e) : c.SameRom e :=
  ⟨k.prg.trans h.prg, k.prgSize.trans h.prgSize, k.mirroring.trans h.mirroring, k.chrIsRam.trans h.chrIsRam,
    k.chrLen.trans h.chrLen, fun rom => (k.chr (h.chrIsRam.trans rom)).trans (h.chr rom)⟩

/-- What every completed operation keeps, beside registers: no fault is recorded or cleared, the parameters and the
ROM stay (rules R52, R54), the memories stay canonical and the PPU's status and counters in range. -/
structure Frame (s t : State) : Prop where
  fault : t.fault = s.fault
  params : t.params = s.params
  cart : ∀ c, s.cart = some c → ∃ d, t.cart = some d ∧ c.SameRom d
  memoryWf : s.memoryWf → t.memoryWf
  ppuWf : s.ppuWf → t.ppuWf

theorem Frame.trans {s t u : State} (h : Frame s t) (k : Frame t u) : Frame s u where
  fault := k.fault.trans h.fault
  params := k.params.trans h.params
  cart c hc := by
    obtain ⟨d, hd, hcd⟩ := h.cart c hc
    obtain ⟨e, he, hde⟩ := k.cart d hd
    exact ⟨e, he, hcd.trans hde⟩
  memoryWf w := k.memoryWf (h.memoryWf w)
  ppuWf w := k.ppuWf (h.ppuWf w)

/-- The frame of a state that has the same cartridge. -/
theorem Frame.of_cart {s t : State} (hf : t.fault = s.fault) (hp : t.params = s.params) (hc : t.cart = s.cart)
    (hm : s.memoryWf → t.memoryWf) (hw : s.ppuWf → t.ppuWf) : Frame s t :=
  ⟨hf, hp, fun c h => ⟨c, hc.trans h, .refl c⟩, hm, hw⟩

/-- Of the registers an operation changes at most the listed ones, and it keeps the frame. -/
structure ChangesOnly (ws : List Register) (s t : State) : Prop where
  frame : Frame s t
  same : ∀ r, r ∉ ws → r.Same s t

theorem ChangesOnly.trans {ws : List Register} {s t u : State} (h : ChangesOnly ws s t) (k : ChangesOnly ws t u) :
    ChangesOnly ws s u := by
  refine ⟨h.frame.trans k.frame, fun r hr => ?_⟩
  have h := h.same r hr
  have k := k.same r hr
  cases r <;> exact Eq.trans k h

theorem ChangesOnly.mono {ws ws' : List Register} {s t : State} (h : ChangesOnly ws s t) (hs : ws ⊆ ws') :
    ChangesOnly ws' s t := ⟨h.frame, fun r hr => h.same r fun k => hr (hs k)⟩

/-- Changes of two lists of registers one after the other. -/
theorem ChangesOnly.seq {ws ws' ws'' : List Register} {s t u : State} (h : ChangesOnly ws' s t)
    (k : ChangesOnly ws'' t u) (hs : ws' ⊆ ws := by decide) (hs' : ws'' ⊆ ws := by decide) : ChangesOnly ws s u :=
  (h.mono hs).trans (k.mono hs')

/-! ## The bus -/

theorem SameCpu.same {s t : State} (h : SameCpu s t) (r : Register) : r.Same s t := by
  cases r with
  | a => exact h.a
  | x => exact h.x
  | y => exact h.y
  | sp => exact h.sp
  | flag k => exact congrArg (BitVec.getLsbD · k) h.p

/-- Reads change no register. -/
theorem ReadsOnly.changesOnly {ws : List Register} {s t : State} (h : ReadsOnly s t) : ChangesOnly ws s t :=
  ⟨.of_cart h.cpu.fault h.cpu.params h.cart h.memoryWf h.ppuWf, fun r _ => h.cpu.same r⟩

/-- A PPU-bus write stores at most in CHR-RAM (20_memory.md rule R121). -/
theorem ppuWrite_cart {pc0 : Word} {a : BitVec 14} {d : Byte} {s t : State} (h : ppuWrite pc0 a d s = .ok () t) :
    ∀ c, s.cart = some c → ∃ e, t.cart = some e ∧ c.SameRom e := by
  intro c hc
  rcases ppuWrite_ok h with rfl | ⟨c', hc', ram, -, rfl⟩ | ⟨_, -, rfl⟩ | rfl
  · exact ⟨c, hc, .refl c⟩
  · obtain rfl := Option.some.inj (hc.symm.trans hc')
    exact ⟨_, rfl, rfl, rfl, rfl, rfl, rfl, fun rom => by simp [ram] at rom⟩
  · exact ⟨c, hc, .refl c⟩
  · exact ⟨c, hc, .refl c⟩

/-- No CPU-bus write reaches ROM (rule R84). -/
theorem memWrite_cart {pc0 a : Word} {d : Byte} {s t : State} (h : memWrite pc0 a d s = .ok () t) :
    ∀ c, s.cart = some c → ∃ e, t.cart = some e ∧ c.SameRom e := by
  have same : t.cart = s.cart → ∀ c, s.cart = some c → ∃ e, t.cart = some e ∧ c.SameRom e :=
    fun e c hc => ⟨c, e.trans hc, .refl c⟩
  unfold memWrite at h
  split at h
  · cases h; exact same rfl
  split at h
  · cases hp : portOf a <;> rw [hp] at h
    case data =>
      obtain ⟨_, u, h1, h2⟩ := Result.bind_eq_ok.mp h
      exact fun c hc => by cases h2; exact ppuWrite_cart h1 c hc
    all_goals cases h; exact same rfl
  · cases h

/-- A store changes no register. -/
theorem memWrite_changesOnly {ws : List Register} {pc0 a : Word} {d : Byte} {s t : State}
    (h : memWrite pc0 a d s = .ok () t) : ChangesOnly ws s t :=
  have cpu := memWrite_sameCpu h
  ⟨⟨cpu.fault, cpu.params, memWrite_cart h, memWrite_memoryWf h, memWrite_ppuWf h⟩, fun r _ => cpu.same r⟩

section
variable {ws : List Register} (s : State)

theorem ChangesOnly.refl : ChangesOnly ws s s := (ReadsOnly.refl s).changesOnly

/-- PC is none of the registers. -/
theorem ChangesOnly.setPc (pc : Word) : ChangesOnly ws s { s with pc := pc } :=
  ⟨.of_cart rfl rfl rfl id id, fun r _ => by cases r <;> rfl⟩

theorem charge_changesOnly (i : Instr) (crossed : Bool) (extra : Nat) : ChangesOnly ws s (charge i crossed extra s) :=
  ⟨.of_cart rfl rfl rfl id id, fun r _ => by cases r <;> rfl⟩

theorem endService_changesOnly : ChangesOnly ws s (endService s) :=
  ⟨.of_cart rfl rfl rfl id id, fun r _ => by cases r <;> rfl⟩

/-! ## The updates the effects are made of -/

theorem changesOnly_setA (v : Byte) : ChangesOnly [.a] s { s with a := v } := by
  refine ⟨.of_cart rfl rfl rfl id id, fun r hr => ?_⟩
  cases r with
  | a => simp at hr
  | x | y | sp | flag => rfl

theorem changesOnly_setX (v : Byte) : ChangesOnly [.x] s { s with x := v } := by
  refine ⟨.of_cart rfl rfl rfl id id, fun r hr => ?_⟩
  cases r with
  | x => simp at hr
  | a | y | sp | flag => rfl

theorem changesOnly_setY (v : Byte) : ChangesOnly [.y] s { s with y := v } := by
  refine ⟨.of_cart rfl rfl rfl id id, fun r hr => ?_⟩
  cases r with
  | y => simp at hr
  | a | x | sp | flag => rfl

theorem changesOnly_setSp (v : Byte) : ChangesOnly [.sp] s { s with sp := v } := by
  refine ⟨.of_cart rfl rfl rfl id id, fun r hr => ?_⟩
  cases r with
  | sp => simp at hr
  | a | x | y | flag => rfl

/-- P loaded as a whole (PLP, RTI) changes no other register. -/
theorem changesOnly_setP (v : Byte) : ChangesOnly flags s { s with p := v } := by
  refine ⟨.of_cart rfl rfl rfl id id, fun r hr => ?_⟩
  cases r with
  | flag k => exact absurd (List.mem_map_of_mem (List.mem_finRange k)) hr
  | a | x | y | sp => rfl

/-- The mask of bit `k` reaches flag `k` alone. -/
theorem changesOnly_setFlag (k : Fin 8) (on : Bool) :
    ChangesOnly [.flag k] s (s.setFlag ((1 : Byte) <<< k.val) on) := by
  refine ⟨.of_cart rfl rfl rfl id id, fun r hr => ?_⟩
  cases r with
  | flag j =>
    have hne : j.val ≠ k.val := fun e => hr (List.mem_singleton.mpr (congrArg _ (Fin.ext e)))
    rw [Register.Same, State.setFlag_p, getLsbD_setFlag _ _ _ j.isLt, if_neg hne]
  | a | x | y | sp => rfl

theorem changesOnly_setNZ (v : Byte) : ChangesOnly [.flag 1, .flag 7] s (s.setNZ v) :=
  (changesOnly_setFlag s 1 (v == 0)).seq (changesOnly_setFlag _ 7 v.msb)

/-- `AddCore` writes A, C, V, Z and N (42_arith_logic.md rule R240). -/
theorem changesOnly_addCore (m : Byte) : ChangesOnly [.a, .flag 0, .flag 6, .flag 1, .flag 7] s (s.addCore m) :=
  have carry := (changesOnly_setA s (BitVec.ofNat 8 (adderSum s.a m s.p))).seq
    (changesOnly_setFlag _ 0 (decide (adderSum s.a m s.p > 0xFF))) (ws := [.a, .flag 0])
  have overflow := carry.seq
    (changesOnly_setFlag _ 6 (adderOverflow s.a m (BitVec.ofNat 8 (adderSum s.a m s.p)))) (ws := [.a, .flag 0, .flag 6])
  overflow.seq (changesOnly_setNZ _ _)

/-- `Compare` writes C, Z and N (rule R247). -/
theorem changesOnly_compare (r m : Byte) : ChangesOnly [.flag 0, .flag 1, .flag 7] s (s.compare r m) :=
  have carry := changesOnly_setFlag s 0 (decide (r.toNat ≥ m.toNat))
  have zero := carry.seq (changesOnly_setFlag _ 1 (r == m)) (ws := [.flag 0, .flag 1])
  zero.seq (changesOnly_setFlag _ 7 (r - m).msb)

/-- A push stores in RAM and moves S (10_state.md rule R33). -/
theorem changesOnly_pushed (d : Byte) : ChangesOnly [.sp] s (s.pushed d) := by
  obtain ⟨_, u, h1, h2⟩ := Result.bind_eq_ok.mp (push_eq 0 d s)
  have k := (memWrite_changesOnly h1).trans (changesOnly_setSp u (u.sp - 1))
  obtain ⟨-, e⟩ := Result.ok.inj h2
  exact e ▸ k

end
end Sys2Proof.Machine
end

section
/-! SUPPORT. Which registers and flags each instruction writes (10_state.md rules R30, R31, R37). -/

namespace Sys2Proof.Machine

/-- The flags SetNZ writes, Z and N (00_scope.md rule R18). -/
abbrev flagsNZ : List Register := [.flag 1, .flag 7]

/-- The flags Compare and the shifts write: C, Z and N (rules R247, R270). -/
abbrev flagsCNZ : List Register := [.flag 0, .flag 1, .flag 7]

/-- The flags AddCore writes: C, V, Z and N (rule R240). -/
abbrev flagsCVNZ : List Register := [.flag 0, .flag 6, .flag 1, .flag 7]

/-- The registers a mnemonic's effect writes; an accumulator operand, which the instruction's form writes, is not among
them. -/
def written : Mnemonic → List Register
  | .lda | .txa | .tya | .and | .ora | .eor => .a :: flagsNZ
  | .ldx | .tax | .tsx | .inx | .dex => .x :: flagsNZ
  | .ldy | .tay | .iny | .dey => .y :: flagsNZ
  | .lax => .a :: .x :: flagsNZ
  | .inc | .dec => flagsNZ
  | .cmp | .cpx | .cpy | .dcp | .asl | .lsr | .rol | .ror => flagsCNZ
  | .slo | .rla | .sre => .a :: flagsCNZ
  | .adc | .sbc | .isc | .rra => .a :: flagsCVNZ
  | .bit => .flag 6 :: flagsNZ
  | .clc | .sec => [.flag 0]
  | .cli | .sei => [.flag 2]
  | .cld | .sed => [.flag 3]
  | .clv => [.flag 6]
  | .txs | .pha | .php | .jsr | .rts => [.sp]
  | .pla => .a :: .sp :: flagsNZ
  | .plp | .rti => .sp :: flags
  | .brk => [.sp, .flag 2]
  | .sta | .stx | .sty | .sax | .bcc | .bcs | .beq | .bmi | .bne | .bpl | .bvc | .bvs | .jmp | .nop => []

/-- A handler's own effects change only the listed registers; its bus accesses and its accumulator operand are not part
of this. -/
def Handler.ChangesOnly (ws : List Register) : Handler → Prop
  | .implied effect => ∀ s, Machine.ChangesOnly ws s (effect s)
  | .stack effect => ∀ pc0 s t, effect pc0 s = .ok () t → Machine.ChangesOnly ws s t
  | .read effect => ∀ b s, Machine.ChangesOnly ws s (effect b s)
  | .store _ => True
  | .rmw op => ∀ b s, Machine.ChangesOnly ws s (op.before b s) ∧ Machine.ChangesOnly ws s (op.after b s)
  | .branch _ _ => True
  | .jump => True
  | .call => ∀ addr pc0 s t, jsrEffect addr pc0 s = .ok () t → Machine.ChangesOnly ws s t
  | .nop => True

/-! ## The families of effects -/

/-- A shift writes C before its result and N and Z behind it (43_shift_rotate.md rule R270). -/
theorem shiftOp_changesOnly (f : Byte → Byte → Shifted) : (Handler.rmw (shiftOp f)).ChangesOnly flagsCNZ :=
  fun m s => ⟨(changesOnly_setFlag s 0 (f m s.p).carry).mono (by decide), (changesOnly_setNZ s m).mono (by decide)⟩

/-- A second primitive adds what it writes (46_undocumented.md rule R320). -/
theorem andThen_changesOnly {ws ws' ws'' : List Register} {op : RmwOp} {second : Byte → State → State}
    (h : (Handler.rmw op).ChangesOnly ws') (h' : ∀ b s, ChangesOnly ws'' s (second b s))
    (hs : ws' ⊆ ws := by decide) (hs' : ws'' ⊆ ws := by decide) : (Handler.rmw (op.andThen second)).ChangesOnly ws :=
  fun b s => ⟨(h b s).1.mono hs, (h b s).2.seq (h' b _) hs hs'⟩

theorem incOp_changesOnly : (Handler.rmw incOp).ChangesOnly flagsNZ := fun r s => ⟨.refl s, changesOnly_setNZ s r⟩

theorem decOp_changesOnly : (Handler.rmw decOp).ChangesOnly flagsNZ := fun r s => ⟨.refl s, changesOnly_setNZ s r⟩

/-- A result loaded into A sets N and Z. -/
theorem changesOnly_loadA (s : State) (v : Byte) : ChangesOnly (.a :: flagsNZ) s ({ s with a := v }.setNZ v) :=
  (changesOnly_setA s v).seq (changesOnly_setNZ _ v)

theorem changesOnly_loadX (s : State) (v : Byte) : ChangesOnly (.x :: flagsNZ) s ({ s with x := v }.setNZ v) :=
  (changesOnly_setX s v).seq (changesOnly_setNZ _ v)

theorem changesOnly_loadY (s : State) (v : Byte) : ChangesOnly (.y :: flagsNZ) s ({ s with y := v }.setNZ v) :=
  (changesOnly_setY s v).seq (changesOnly_setNZ _ v)

/-- BIT writes Z and N, then V (rule R246). -/
theorem changesOnly_bit (s : State) (b : Byte) : ChangesOnly (.flag 6 :: flagsNZ) s (bitEffect b s) :=
  have zero := changesOnly_setFlag s 1 (s.a &&& b == 0)
  have sign := zero.seq (changesOnly_setFlag _ 7 (b.getLsbD 7)) (ws := flagsNZ)
  sign.seq (changesOnly_setFlag _ 6 (b.getLsbD 6))

/-- Taking an interrupt writes S and I (60_exceptions.md rule R352). -/
theorem enterInterrupt_changesOnly {pc0 ret vector : Word} {b : Byte} {s t : State}
    (h : enterInterrupt pc0 ret b vector s = .ok () t) : ChangesOnly [.sp, .flag 2] s t := by
  obtain ⟨u, pc, k, rfl⟩ := enterInterrupt_ok h
  have pushes : ChangesOnly [.sp] s (((s.pushed (highByte ret)).pushed (lowByte ret)).pushed b) :=
    ((changesOnly_pushed s _).trans (changesOnly_pushed _ _)).trans (changesOnly_pushed _ _)
  have entry : ChangesOnly [.sp, .flag 2] s _ := pushes.seq (changesOnly_setFlag _ 2 true)
  exact (entry.trans k.changesOnly).trans (.setPc u pc)

/-- The service of an interrupt writes S and I (rules R352, R353). -/
theorem service_changesOnly {kind : Interrupt} {s t : State} (h : service kind s = .ok () t) :
    ChangesOnly [.sp, .flag 2] s t := by
  have interrupt : ∀ {vector : Word}, serviceInterrupt vector s = .ok () t → ChangesOnly [.sp, .flag 2] s t := by
    intro vector h
    obtain ⟨_, u, h1, h2⟩ := Result.bind_eq_ok.mp h
    cases h2; exact (enterInterrupt_changesOnly h1).trans (endService_changesOnly u)
  cases kind with
  | irq => exact interrupt h
  | nmi => exact interrupt h
  | reset =>
    obtain ⟨u, pc, k, rfl⟩ := serviceReset_ok h
    have entry : ChangesOnly [.sp, .flag 2] s { s.setFlag maskI true with sp := s.sp - 3 } :=
      (changesOnly_setFlag s 2 true).seq (changesOnly_setSp _ _)
    exact ((entry.trans k.changesOnly).trans (.setPc u pc)).trans (endService_changesOnly _)

theorem push_changesOnly {pc0 : Word} {d : Byte} {s t : State} (h : push pc0 d s = .ok () t) :
    ChangesOnly [.sp] s t := by
  rw [push_eq] at h
  cases h; exact changesOnly_pushed s d

theorem jsrEffect_changesOnly {addr pc0 : Word} {s t : State} (h : jsrEffect addr pc0 s = .ok () t) :
    ChangesOnly [.sp] s t := by
  simp only [jsrEffect, push16_eq, Result.bind_ok] at h
  cases h
  exact ((changesOnly_pushed s _).trans (changesOnly_pushed _ _)).trans (.setPc _ _)

theorem rtsEffect_changesOnly {pc0 : Word} {s t : State} (h : rtsEffect pc0 s = .ok () t) :
    ChangesOnly [.sp] s t := by
  simp only [rtsEffect, pull16_eq, Result.bind_ok] at h
  cases h
  exact (changesOnly_setSp s (s.sp + 2)).trans (.setPc { s with sp := s.sp + 2 } _)

theorem rtiEffect_changesOnly {pc0 : Word} {s t : State} (h : rtiEffect pc0 s = .ok () t) :
    ChangesOnly (.sp :: flags) s t := by
  simp only [rtiEffect, returnFromInterrupt_eq] at h
  cases h
  have loads : ChangesOnly (.sp :: flags) s { s with p := pulledP (s.stackByte 1), sp := s.sp + 3 } :=
    (changesOnly_setP s _).seq (changesOnly_setSp { s with p := pulledP (s.stackByte 1) } (s.sp + 3))
  exact loads.trans (.setPc { s with p := pulledP (s.stackByte 1), sp := s.sp + 3 } _)

theorem plaEffect_changesOnly {pc0 : Word} {s t : State} (h : plaEffect pc0 s = .ok () t) :
    ChangesOnly (.a :: .sp :: flagsNZ) s t := by
  simp only [plaEffect, pull_eq, Result.bind_ok] at h
  cases h
  exact (changesOnly_setSp s (s.sp + 1)).seq (changesOnly_loadA { s with sp := s.sp + 1 } (s.stackByte 1))

theorem plpEffect_changesOnly {pc0 : Word} {s t : State} (h : plpEffect pc0 s = .ok () t) :
    ChangesOnly (.sp :: flags) s t := by
  simp only [plpEffect, pull_eq, Result.bind_ok] at h
  cases h
  exact (changesOnly_setSp s (s.sp + 1)).seq (changesOnly_setP { s with sp := s.sp + 1 } _)

/-- Every mnemonic's effect writes only the registers the table gives it. -/
theorem handlerOf_changesOnly (m : Mnemonic) : (handlerOf m).ChangesOnly (written m) := by
  cases m
  case lda => exact fun b s => changesOnly_loadA s b
  case and | ora | eor => exact fun _ s => changesOnly_loadA s _
  case ldx => exact fun b s => changesOnly_loadX s b
  case ldy => exact fun b s => changesOnly_loadY s b
  case lax => exact fun b s => (changesOnly_setX s b).seq (changesOnly_loadA { s with x := b } b)
  case txa | tya => exact fun s => changesOnly_loadA s _
  case tax | tsx | inx | dex => exact fun s => changesOnly_loadX s _
  case tay | iny | dey => exact fun s => changesOnly_loadY s _
  case txs => exact fun s => changesOnly_setSp s s.x
  case adc | sbc => exact fun _ s => changesOnly_addCore s _
  case cmp | cpx | cpy => exact fun b s => changesOnly_compare s _ b
  case bit => exact fun b s => changesOnly_bit s b
  case inc => exact incOp_changesOnly
  case dec => exact decOp_changesOnly
  case asl | lsr | rol | ror => exact shiftOp_changesOnly _
  case dcp => exact andThen_changesOnly decOp_changesOnly (fun b s => changesOnly_compare s s.a b)
  case isc => exact andThen_changesOnly incOp_changesOnly (fun _ s => changesOnly_addCore s _)
  case slo | rla | sre => exact andThen_changesOnly (shiftOp_changesOnly _) (fun _ s => changesOnly_loadA s _)
  case rra => exact andThen_changesOnly (shiftOp_changesOnly _) (fun b s => changesOnly_addCore s b)
  case clc | sec => exact fun s => changesOnly_setFlag s 0 _
  case cli | sei => exact fun s => changesOnly_setFlag s 2 _
  case cld | sed => exact fun s => changesOnly_setFlag s 3 _
  case clv => exact fun s => changesOnly_setFlag s 6 _
  case pha | php => exact fun _ _ _ h => push_changesOnly h
  case pla => exact fun _ _ _ h => plaEffect_changesOnly h
  case plp => exact fun _ _ _ h => plpEffect_changesOnly h
  case jsr => exact fun _ _ _ _ h => jsrEffect_changesOnly h
  case rts => exact fun _ _ _ h => rtsEffect_changesOnly h
  case rti => exact fun _ _ _ h => rtiEffect_changesOnly h
  case brk => exact fun _ _ _ h => enterInterrupt_changesOnly h
  case sta | stx | sty | sax | bcc | bcs | beq | bmi | bne | bpl | bvc | bvs | jmp | nop => exact trivial

/-! ## Instructions -/

/-- The registers an instruction writes: those of its mnemonic, and A where it is the operand written back. -/
def writtenBy (i : Instr) : List Register :=
  if i.operand = .accumulator then .a :: written i.mnemonic else written i.mnemonic

/-- What a handler has done changes the registers its effects do, and an accumulator operand. -/
theorem Handler.Did.changesOnly {h : Handler} {ws ws' : List Register} {i : Instr} {s t : State}
    (hd : h.Did i s t) (hc : h.ChangesOnly ws) (hs : ws ⊆ ws') (ha : i.operand = .accumulator → .a ∈ ws') :
    Machine.ChangesOnly ws' s t := by
  cases h with
  | implied effect => subst hd; exact (hc s).mono hs
  | stack effect => exact (hc _ _ _ hd).mono hs
  | read effect =>
    obtain ⟨b, u, k, rfl⟩ := hd
    exact k.changesOnly.trans ((hc b u).mono hs)
  | store value =>
    obtain ⟨m, r, u, -, h1, h2⟩ := hd
    exact (ReadsOnly.of_resolve h1).changesOnly.trans (memWrite_changesOnly h2)
  | rmw op =>
    rcases hd with ⟨ho, rfl⟩ | ⟨m, r, v, b, u, w, -, h1, h2, h3, rfl⟩
    · have acc := (changesOnly_setA (op.before s.a s) (op.value s.a s)).mono (by simpa using ha ho : [.a] ⊆ ws')
      exact (((hc s.a s).1.mono hs).trans acc).trans ((hc _ _).2.mono hs)
    · have reads := (ReadsOnly.of_resolve h1).trans (.of_memRead h2)
      have stores := ((hc b u).1.mono hs).trans (memWrite_changesOnly h3)
      exact (reads.changesOnly.trans stores).trans ((hc _ w).2.mono hs)
  | branch mask want => obtain ⟨pc, rfl⟩ := hd; exact .setPc s pc
  | jump =>
    obtain ⟨u, pc, k, rfl⟩ := hd
    exact k.changesOnly.trans (.setPc u pc)
  | call =>
    obtain ⟨addr, -, h1⟩ := hd
    exact (hc addr _ _ _ h1).mono hs
  | nop => exact ReadsOnly.changesOnly hd

/-- An instruction changes only the registers it writes, and keeps the frame. -/
theorem exec_changesOnly {i : Instr} {s t : State} (h : exec i s = .next t) : ChangesOnly (writtenBy i) s t := by
  obtain ⟨t1, extra, hd, rfl, -, -⟩ := exec_next h
  have hs : written i.mnemonic ⊆ writtenBy i := by
    unfold writtenBy; split
    · exact List.subset_cons_self _ _
    · exact List.Subset.refl _
  have ha : i.operand = .accumulator → .a ∈ writtenBy i := fun ho => by
    rw [writtenBy, if_pos ho]; exact List.mem_cons_self
  exact (hd.changesOnly (handlerOf_changesOnly i.mnemonic) hs ha).trans (charge_changesOnly ..)

/-! ## The tables of rules R30, R31 and R37 -/

/-- The instructions the rules name as the writers of a register; bits 5 and 4 of P are loaded by PLP and RTI alone
(10_state.md rule R35). -/
def writers : Register → List Mnemonic
  | .a => writesA
  | .x => writesX
  | .y => writesY
  | .sp => writesS
  | .flag k => ![writesC, writesNZ, writesI, writesD, [.plp, .rti], [.plp, .rti], writesV, writesNZ] k

theorem mem_writers_of_written (m : Mnemonic) : ∀ r ∈ written m, m ∈ writers r := by
  cases m <;> decide

/-- The shifts and rotates. -/
abbrev shifts : List Mnemonic := [.asl, .lsr, .rol, .ror]

set_option maxRecDepth 10000 in
/-- Only the shifts have an accumulator form (30_encoding.md rule R162). -/
theorem mem_shifts_of_accumulator {i : Instr} (h : i.operand = .accumulator) : i.mnemonic ∈ shifts := by
  obtain ⟨slot, hs, k⟩ := mem_opcodeMap i
  have rows : opcodeMap.all (fun slot =>
      (slotRow slot).2.2.1 != .accumulator || decide ((slotRow slot).1 ∈ shifts)) = true := rfl
  have := List.all_eq_true.mp rows slot hs
  rw [k] at this
  simpa [mapRow, h, Operand.mode] using this

/-- An instruction that writes a register is one the rules name for it. -/
theorem mem_writers_of_writtenBy {i : Instr} {r : Register} (h : r ∈ writtenBy i) : i.mnemonic ∈ writers r := by
  unfold writtenBy at h
  split at h
  · rename_i ho
    rcases List.mem_cons.mp h with rfl | h
    · have named : ∀ m ∈ shifts, m ∈ writesA := by decide
      exact named _ (mem_shifts_of_accumulator ho)
    · exact mem_writers_of_written _ r h
  · exact mem_writers_of_written _ r h

/-- An instruction keeps every register it is not a writer of. -/
theorem exec_same {i : Instr} {s t : State} (h : exec i s = .next t) (r : Register) (hr : i.mnemonic ∉ writers r) :
    r.Same s t := (exec_changesOnly h).same r fun k => hr (mem_writers_of_writtenBy k)

/-- A shift of a memory operand keeps A. -/
theorem exec_shift_a {i : Instr} {s t : State} (h : exec i s = .next t) (hm : i.mnemonic ∈ shifts)
    (ho : i.operand ≠ .accumulator) : t.a = s.a := by
  have flagsOnly : ∀ m ∈ shifts, .a ∉ written m := by decide
  exact (exec_changesOnly h).same .a (by rw [writtenBy, if_neg ho]; exact flagsOnly _ hm)

/-- Interrupt service moves S three down. -/
theorem service_sp {kind : Interrupt} {s t : State} (h : service kind s = .ok () t) : t.sp = s.sp - 3 := by
  have three : s.sp - 1 - 1 - 1 = s.sp - 3 := by bv_omega
  have interrupt : ∀ {vector : Word}, serviceInterrupt vector s = .ok () t → t.sp = s.sp - 3 := by
    intro vector h
    obtain ⟨u, pc, k, rfl⟩ := serviceInterrupt_ok h
    exact k.cpu.sp.trans three
  cases kind with
  | irq => exact interrupt h
  | nmi => exact interrupt h
  | reset => obtain ⟨u, pc, k, rfl⟩ := serviceReset_ok h; exact k.cpu.sp

/-- Settles O49: an instruction changes only registers of its row in `writtenBy`, which rules R30 and R31 name it for;
interrupt service changes S and I. -/
theorem registersChangeOnlyByTheirWriters : Obligations.RegistersChangeOnlyByTheirWriters := by
  unfold Obligations.RegistersChangeOnlyByTheirWriters
  refine ⟨fun i s t h => ⟨?_, exec_same h .x, exec_same h .y, exec_same h .sp⟩, fun kind s t h => ?_⟩
  · rintro (hm | ⟨hm, ho⟩)
    · exact exec_same h .a hm
    · exact exec_shift_a h hm ho
  · have k := service_changesOnly h
    exact ⟨k.same .a (by decide), k.same .x (by decide), k.same .y (by decide), service_sp h⟩

/-! ## Flags -/

/-- Bits 5 and 4 of P, one by one (10_state.md rule R35). -/
theorem breakUnused_iff (p : Byte) : p &&& 0x30 = 0x20 ↔ p.getLsbD 4 = false ∧ p.getLsbD 5 = true := by
  revert p; decide

theorem pulledP_breakUnused (b : Byte) : pulledP b &&& 0x30 = 0x20 := by
  revert b; decide

/-- Where flags 4 and 5 are kept, so are the values rule R35 gives them. -/
theorem flagsWf_of_same {s t : State} (h4 : (Register.flag 4).Same s t) (h5 : (Register.flag 5).Same s t)
    (h : s.flagsWf) : t.flagsWf := by
  obtain ⟨k4, k5⟩ := (breakUnused_iff s.p).mp h
  exact (breakUnused_iff t.p).mpr ⟨h4.trans k4, h5.trans k5⟩

/-- PLP and RTI load P from a pulled byte. -/
theorem exec_pull_p {i : Instr} {s t : State} (hm : i.mnemonic ∈ [Mnemonic.plp, .rti]) (h : exec i s = .next t) :
    t.p = pulledP (s.stackByte 1) := by
  obtain ⟨t1, extra, hd, rfl, -, -⟩ := exec_next h
  rw [charge_p]
  simp only [List.mem_cons, List.not_mem_nil, or_false] at hm
  rcases hm with hm | hm <;> rw [hm] at hd
  · simp only [handlerOf, Handler.Did, plpEffect, pull_eq, Result.bind_ok] at hd
    cases hd; rfl
  · simp only [handlerOf, Handler.Did, rtiEffect, returnFromInterrupt_eq] at hd
    cases hd; rfl

/-- Every instruction keeps bit 5 of P set and bit 4 clear. -/
theorem exec_flagsWf {i : Instr} {s t : State} (h : exec i s = .next t) (hw : s.flagsWf) : t.flagsWf := by
  by_cases hm : i.mnemonic ∈ [Mnemonic.plp, .rti]
  · rw [State.flagsWf, exec_pull_p hm h]; exact pulledP_breakUnused _
  · exact flagsWf_of_same (exec_same h (.flag 4) hm) (exec_same h (.flag 5) hm) hw

/-- Settles O50: each flag is a register whose writers rule R37 lists; PLP and RTI force bits 5 and 4. -/
theorem flagsChangeOnlyByTheirWriters : Obligations.FlagsChangeOnlyByTheirWriters := by
  unfold Obligations.FlagsChangeOnlyByTheirWriters
  intro i s t h
  exact ⟨exec_same h (.flag 0), fun hm => ⟨exec_same h (.flag 1) hm, exec_same h (.flag 7) hm⟩, exec_same h (.flag 2),
    exec_same h (.flag 3), exec_same h (.flag 6), exec_flagsWf h⟩

end Sys2Proof.Machine
end

section
/-! SUPPORT. What a step keeps: the frame of every operation, and the flags' and the PPU's well-formedness through the
ticks (10_state.md rules R35, R44, R48, R52; 60_exceptions.md rule R372). -/

namespace Sys2Proof.Machine

/-! ## The ticks -/

/-- Status bits 4 to 0 are 0 (10_state.md rule R44). -/
def Ppu.StatusWf (p : Ppu) : Prop := p.status &&& 0x1F = 0

/-- VBlank and the sprite flags lie above the bits that stay 0. -/
theorem statusWf_or {b m : Byte} (hb : b &&& 0x1F = 0) (hm : m &&& 0x1F = 0) : (b ||| m) &&& 0x1F = 0 := by
  rw [BitVec.and_comm, BitVec.and_or_distrib_left, BitVec.and_comm _ b, BitVec.and_comm _ m, hb, hm]; rfl

theorem Ppu.advance_status (p : Ppu) : p.advance.status = p.status := by
  unfold Ppu.advance; split <;> rfl

theorem Ppu.events_statusWf {p : Ppu} (h : p.StatusWf) : p.events.StatusWf := by
  unfold Ppu.events
  split
  · exact statusWf_or h (by decide)
  split
  · exact (BitVec.and_assoc ..).trans h
  · exact h

theorem drawSpriteFlags_statusWf {s : State} (h : s.ppu.StatusWf) : (drawSpriteFlags s).ppu.StatusWf := by
  unfold drawSpriteFlags
  split
  · exact h
  split
  · exact h
  · exact statusWf_or (statusWf_or h (by split <;> decide)) (by split <;> decide)

theorem ppuTick_statusWf {s : State} (h : s.ppu.StatusWf) : (ppuTick s).ppu.StatusWf :=
  drawSpriteFlags_statusWf (Ppu.events_statusWf ((congrArg (· &&& 0x1F) s.ppu.advance_status).trans h))

theorem ppuTicks_statusWf {s : State} (h : s.ppu.StatusWf) (n : Nat) : (ppuTicks n s).ppu.StatusWf := by
  induction n generalizing s with
  | zero => exact h
  | succ n ih => exact ih (ppuTick_statusWf h)

/-- Settles O22: each tick moves the place in the frame by one dot, and ticks keep the range. -/
theorem ticksAdvanceTheFramePosition : Obligations.TicksAdvanceTheFramePosition := by
  unfold Obligations.TicksAdvanceTheFramePosition
  intro n s hd hl
  obtain ⟨range, position⟩ := ppuTicks_position ⟨hd, hl⟩ n
  exact ⟨position, range⟩

@[simp] theorem latchNmi_status (s : State) : (latchNmi s).ppu.status = s.ppu.status := by
  unfold latchNmi
  split
  · rw [State.raise_eq]
  · rfl

/-- The console's part of a step keeps the PPU's status and counters in range and leaves no NMI request (rule R372). -/
theorem afterCpu_ppuWf {before s : State} (h : s.ppuWf) : (afterCpu before s).ppuWf := by
  obtain ⟨status, dot, scanline, -⟩ := h
  have hs := ppuTicks_statusWf status (3 * cyclesElapsed before s)
  have range := (ppuTicks_position ⟨dot, scanline⟩ (3 * cyclesElapsed before s)).1
  have hc : (afterCpu before s).ppu.InRange := .of_counters (latchNmi_counters _) range
  refine ⟨by rw [afterCpu, latchNmi_status]; exact hs, hc.1, hc.2, ?_⟩
  obtain ⟨_, _, _, _, _, e⟩ := afterCpu_eq before s
  rw [e]

theorem afterCpu_frame (before s : State) : Frame s (afterCpu before s) := by
  have wf := afterCpu_ppuWf (before := before) (s := s)
  obtain ⟨_, _, _, _, _, e⟩ := afterCpu_eq before s
  rw [e] at wf ⊢
  exact .of_cart rfl rfl rfl id wf

theorem afterCpu_p (before s : State) : (afterCpu before s).p = s.p := by
  obtain ⟨_, _, _, _, _, e⟩ := afterCpu_eq before s
  rw [e]

/-! ## The step -/

/-- The fetch changes PC alone, beside what reads do. -/
theorem fetchInstr_changesOnly {s t : State} {i : Instr} (h : fetchInstr s = .ok i t) : ChangesOnly [] s t := by
  obtain ⟨pc, k, -⟩ := fetchInstr_ok h
  exact (ChangesOnly.setPc s pc).trans k.changesOnly

/-- Interrupt service writes only I among the flags. -/
theorem service_flagsWf {kind : Interrupt} {s t : State} (h : service kind s = .ok () t) (hw : s.flagsWf) :
    t.flagsWf :=
  have k := service_changesOnly h
  flagsWf_of_same (k.same _ (by decide)) (k.same _ (by decide)) hw

/-- A step is a CPU part and the console's, both of which keep the frame and the flags' well-formedness. -/
theorem step_keeps {s t : State} (h : step s = .next t) : Frame s t ∧ (s.flagsWf → t.flagsWf) := by
  obtain ⟨-, -, s1, rfl, ⟨kind, -, hk⟩ | ⟨-, i, u, hf, he⟩⟩ := step_next h
  · refine ⟨(service_changesOnly hk).frame.trans (afterCpu_frame s s1), fun w => ?_⟩
    rw [State.flagsWf, afterCpu_p]; exact service_flagsWf hk w
  · have fetch := fetchInstr_changesOnly hf
    refine ⟨(fetch.frame.trans (exec_changesOnly he).frame).trans (afterCpu_frame s s1), fun w => ?_⟩
    rw [State.flagsWf, afterCpu_p]
    exact exec_flagsWf he (flagsWf_of_same (fetch.same _ List.not_mem_nil) (fetch.same _ List.not_mem_nil) w)

/-- Settles O56: a step keeps each part of the invariant. -/
theorem everyStepKeepsTheInvariant : Obligations.EveryStepKeepsTheInvariant := by
  unfold Obligations.EveryStepKeepsTheInvariant
  intro s t ⟨flags, ppu, memory⟩ h
  obtain ⟨frame, keepsFlags⟩ := step_keeps h
  exact ⟨keepsFlags flags, frame.ppuWf ppu, frame.memoryWf memory⟩

/-- Settles O58: a step keeps the frame, of which ROM and the parameters are a part. -/
theorem noStepChangesRomOrParameters : Obligations.NoStepChangesRomOrParameters := by
  unfold Obligations.NoStepChangesRomOrParameters
  intro s t h
  obtain ⟨-, ⟨c, hc⟩, -⟩ := step_next h
  obtain ⟨frame, -⟩ := step_keeps h
  obtain ⟨d, hd, rom⟩ := frame.cart c hc
  exact ⟨c, d, hc, hd, frame.params, rom.prg, rom.prgSize, rom.mirroring, rom.chrIsRam, rom.chrLen, rom.chr⟩

/-! ## Power-up -/

theorem powerUp_flagsWf (params : Params) (cart : Option Cartridge) : (State.powerUp params cart).flagsWf :=
  (by decide : (0x20 : Byte) &&& 0x30 = 0x20)

/-- Power-up empties CHR-RAM and keeps CHR-ROM (70_reset_and_hazards.md rule R390). -/
theorem powerUp_cartWf {params : Params} {c : Cartridge} (h : c.wf) :
    ∀ d ∈ (State.powerUp params (some c)).cart, d.wf := by
  obtain ⟨prg, chr, len, ram⟩ := h
  intro d hd
  obtain rfl : (if c.chrIsRam then { c with chr := [] } else c) = d := Option.some.inj hd
  split
  · exact ⟨prg, rfl, len, ram⟩
  · exact ⟨prg, chr, len, ram⟩

/-- Settles O55: the registers and counters of rule R390 are in range, each memory a well-formed part or empty. -/
theorem powerUpMeetsTheInvariant : Obligations.PowerUpMeetsTheInvariant := by
  unfold Obligations.PowerUpMeetsTheInvariant
  refine ⟨⟨by decide, by decide, reset_memoryWf⟩, fun params c hc ram vram oam pal => ⟨powerUp_flagsWf .., ?_, ?_⟩⟩
  · exact ⟨(by decide : (0 : Byte) &&& 0x1F = 0), Nat.zero_le _, Nat.zero_le _, rfl⟩
  · exact ⟨ram, vram, oam, pal, powerUp_cartWf hc⟩

/-! ## The pushed copies of P -/

/-- The byte a push stored is the one the next pull finds (10_state.md rule R33). -/
theorem stackByte_pushed {s : State} (h : s.ram.wf 0x800 = true) (d : Byte) : (s.pushed d).stackByte 1 = d := by
  have slot : (s.pushed d).sp + BitVec.ofNat 8 1 = s.sp := BitVec.sub_add_cancel _ _
  rw [State.stackByte, slot, State.pushed, Memory.read_write_of_wf h, if_pos rfl]

theorem pushed_ramWf {s : State} (h : s.ram.wf 0x800 = true) (d : Byte) : (s.pushed d).ram.wf 0x800 = true :=
  Memory.wf_write h (by have := s.sp.isLt; omega) d

/-- PHP pushes P with bits 4 and 5 set (rule R301). -/
theorem php_stackByte {s t : State} (h : exec .php s = .next t) (hw : s.ram.wf 0x800 = true) :
    t.stackByte 1 = pushedByInstruction s.p := by
  obtain ⟨t1, hd, rfl⟩ := runStack_next h
  rw [phpEffect, push_eq] at hd
  cases hd; exact stackByte_pushed hw _

/-- BRK pushes P last, with bits 4 and 5 set (rule R292). -/
theorem brk_stackByte {s t : State} (h : exec .brk s = .next t) (hw : s.ram.wf 0x800 = true) :
    t.stackByte 1 = pushedByInstruction s.p := by
  obtain ⟨t1, hd, rfl⟩ := runStack_next h
  obtain ⟨u, pc, k, rfl⟩ := enterInterrupt_ok hd
  have copied := stackByte_pushed (pushed_ramWf (pushed_ramWf hw (highByte (s.pc + 1))) (lowByte (s.pc + 1)))
    (pushedByInstruction s.p)
  rw [← copied]
  simp only [State.stackByte, charge_ram, charge_sp, k.memory.1, k.cpu.sp, State.setFlag_ram, State.setFlag_sp]

theorem pushedByInstruction_bits (p : Byte) :
    (pushedByInstruction p).getLsbD 4 = true ∧ (pushedByInstruction p).getLsbD 5 = true := by
  revert p; decide

/-- Settles O57: power-up gives P = $20, steps keep bits 5 and 4, and PHP and BRK push a copy that has both set. -/
theorem breakAndUnusedBitsNeverChange : Obligations.BreakAndUnusedBitsNeverChange := by
  unfold Obligations.BreakAndUnusedBitsNeverChange
  refine ⟨powerUp_flagsWf, fun s t hw h => (step_keeps h).2 hw, fun s t h hw ram => ?_⟩
  rcases h with h | h
  · exact ⟨exec_flagsWf h hw, php_stackByte h ram ▸ pushedByInstruction_bits s.p⟩
  · exact ⟨exec_flagsWf h hw, brk_stackByte h ram ▸ pushedByInstruction_bits s.p⟩

/-! ## How a step stops -/

/-- An outcome that is a next state, or a bus fault or decode fault that names `pc0` and leaves `FAULT` holding its
record. -/
def CpuOutcomeAt (pc0 : Word) (o : Out) : Prop :=
  OutcomeAt pc0 o ∨
    ∃ opcode left, o = .fault (.decodeFault opcode pc0 left) ∧ left.fault = some (.decode opcode pc0)

/-- Fetching and executing stops only with a fault that names the opcode's address (rules R340 to R342). -/
theorem execFetched_outcome (s : State) : CpuOutcomeAt s.pc (execFetched s) := by
  unfold execFetched
  cases hf : fetchInstr s with
  | ok i u =>
    obtain ⟨pc, k, hpc⟩ := fetchInstr_ok hf
    have start : startPc i u = s.pc := startPc_advance i u s.pc (k.cpu.pc.trans hpc)
    exact .inl (start ▸ exec_outcome i u)
  | fault e u =>
    rcases fetchInstr_fault hf with ⟨kind, a, rfl⟩ | ⟨opcode, rfl⟩
    · exact .inl (.inr ⟨kind, a, _, rfl, rfl⟩)
    · exact .inr ⟨opcode, _, rfl, rfl⟩

/-- The CPU's part of a step completes, or stops with a fault that names the PC it began at. -/
theorem cpuStep_outcome (s : State) : CpuOutcomeAt s.pc (cpuStep s) := by
  unfold cpuStep
  split
  · exact .inl (.of_result (service_faultsAt _ s))
  · exact execFetched_outcome s

/-- A running machine's step is the CPU's part, and the console's where that completes. -/
theorem step_running {s : State} (h : s.running = true) :
    (∀ s1, cpuStep s = .next s1 → step s = .next (afterCpu s s1)) ∧ ∀ f, cpuStep s = .fault f → step s = .fault f := by
  simp only [State.running, Bool.and_eq_true, Option.isNone_iff_eq_none, Option.isSome_iff_exists] at h
  obtain ⟨hf, c, hc⟩ := h
  constructor <;> intro _ k <;> rw [step, hf, hc, k]

/-- A step that answers a next state leaves the machine running. -/
theorem step_next_running {s t : State} (h : step s = .next t) : t.running = true := by
  obtain ⟨hf, ⟨c, hc⟩, -⟩ := step_next h
  obtain ⟨frame, -⟩ := step_keeps h
  obtain ⟨d, hd, -⟩ := frame.cart c hc
  rw [State.running, frame.fault, hf, hd]; rfl

/-- Settles O59: the CPU's part of a running machine's step completes or faults at the PC it began at; a recorded fault
and a missing cartridge are the step's first two checks. -/
theorem stepStopsOnlyWithItsFaults : Obligations.StepStopsOnlyWithItsFaults := by
  unfold Obligations.StepStopsOnlyWithItsFaults
  refine ⟨fun s h => ?_, fun _ _ => step_stuck, fun _ => step_noCartridge⟩
  obtain ⟨completes, faults⟩ := step_running h
  rcases cpuStep_outcome s with (⟨s1, k⟩ | ⟨kind, a, left, k, record⟩) | ⟨opcode, left, k, record⟩
  · exact .inl ⟨_, completes s1 k, step_next_running (completes s1 k)⟩
  · exact .inr (.inr ⟨kind, a, left, faults _ k, record⟩)
  · exact .inr (.inl ⟨opcode, left, faults _ k, record⟩)

end Sys2Proof.Machine
end

section
/-! SUPPORT. The D flag takes no part (10_state.md rule R36): writing it before or behind an operation is the same. -/

namespace Sys2Proof.Machine

/-! ## Flags of P beside D -/

/-- Updates of two different flags commute. -/
theorem setFlag_comm {j k : Fin 8} (h : j ≠ k) (on off : Bool) (p : Byte) :
    setFlag ((1 : Byte) <<< j.val) on (setFlag ((1 : Byte) <<< k.val) off p) =
      setFlag ((1 : Byte) <<< k.val) off (setFlag ((1 : Byte) <<< j.val) on p) := by
  refine BitVec.eq_of_getLsbD_eq fun b hb => ?_
  have hne := Fin.val_ne_of_ne h
  simp only [getLsbD_setFlag _ _ _ hb]
  by_cases hj : b = j.val
  · rw [if_pos hj, if_neg (by omega), if_pos hj]
  · rw [if_neg hj, if_neg hj]

/-- A flag's test is its bit of P. -/
theorem flag_eq_getLsbD (j : Fin 8) (p : Byte) : flag ((1 : Byte) <<< j.val) p = p.getLsbD j := by
  change (p &&& BitVec.twoPow 8 j != 0) = _
  have set : BitVec.twoPow 8 j ≠ 0 := by revert j; decide
  rw [BitVec.and_twoPow]
  cases p.getLsbD j with
  | false => rfl
  | true => exact bne_iff_ne.mpr set

/-- A test of one flag does not see another's update. -/
theorem flag_setFlag {j k : Fin 8} (h : j ≠ k) (on : Bool) (p : Byte) :
    flag ((1 : Byte) <<< j.val) (setFlag ((1 : Byte) <<< k.val) on p) = flag ((1 : Byte) <<< j.val) p := by
  rw [flag_eq_getLsbD, flag_eq_getLsbD, getLsbD_setFlag _ _ _ j.isLt, if_neg (Fin.val_ne_of_ne h)]

/-! ## Operations that do not read D -/

/-- The state with D written. -/
abbrev State.withD (d : Bool) (s : State) : State := s.setFlag maskD d

/-- The result with D written in its state. -/
def Result.withD {α : Type} (d : Bool) : Result α → Result α
  | .ok a s => .ok a (s.withD d)
  | .fault e s => .fault e (s.withD d)

/-- The second result is the first with D written. -/
structure SameButD {α : Type} (d : Bool) (r r' : Result α) : Prop where
  eq : r' = r.withD d

theorem SameButD.ok {α : Type} {d : Bool} {s s' : State} (a : α) (h : s' = s.withD d) :
    SameButD d (Result.ok a s) (.ok a s') := ⟨by rw [h]; rfl⟩

theorem SameButD.fault {α : Type} (d : Bool) (e : FaultRecord) (s : State) :
    SameButD d (Result.fault e s : Result α) (.fault e (s.withD d)) := ⟨rfl⟩

theorem SameButD.bind {α β : Type} {d : Bool} {r r' : Result α} {k k' : α → State → Result β} (h : SameButD d r r')
    (h' : ∀ a s, SameButD d (k a s) (k' a (s.withD d))) : SameButD d (r.bind k) (r'.bind k') := by
  obtain rfl := h.eq
  cases r with
  | ok a s => exact h' a s
  | fault e s => exact .fault d e s

theorem SameButD.ite {α : Type} {d : Bool} {c : Prop} [Decidable c] {r r' q q' : Result α}
    (h : SameButD d r r') (h' : SameButD d q q') : SameButD d (if c then r else q) (if c then r' else q') := by
  split
  · exact h
  · exact h'

/-- Where the first outcome is a next state, the second is that state with D written. -/
structure NextSameButD (d : Bool) (o o' : Out) : Prop where
  next : ∀ t, o = .next t → o' = .next (t.withD d)

theorem NextSameButD.of_eq {d : Bool} {s s' : State} (h : s' = s.withD d) : NextSameButD d (.next s) (.next s') :=
  ⟨fun t k => by cases k; rw [h]⟩

theorem NextSameButD.of_result {d : Bool} {r r' : Result Unit} (h : SameButD d r r') :
    NextSameButD d r.toOutcome r'.toOutcome := by
  refine ⟨fun t k => ?_⟩
  rw [h.eq, Result.toOutcome_eq_next.mp k]; rfl

section
variable (d : Bool) (pc0 : Word) (s : State)

/-! ## The buses and the stack -/

theorem ppuRead_sameButD (a : BitVec 14) : SameButD d (ppuRead pc0 a s) (ppuRead pc0 a (s.withD d)) := by
  have peek : ppuPeek a (s.withD d) = ppuPeek a s := rfl
  rw [ppuRead, ppuRead, peek]
  cases ppuPeek a s with
  | some b => exact .ok b rfl
  | none => exact .fault ..

theorem readOpenBus_sameButD : SameButD d (readOpenBus s) (readOpenBus (s.withD d)) := by
  rw [readOpenBus, readOpenBus, State.setFlag_params]
  cases s.params.openBus with
  | fixed b => exact .ok b rfl
  | draw => exact .ok _ rfl

theorem readPort_sameButD (port : PpuPort) : SameButD d (readPort pc0 port s) (readPort pc0 port (s.withD d)) := by
  cases port with
  | ctrl | mask | oamAddr | scroll | addr => exact readOpenBus_sameButD d s
  | status => exact .ok _ rfl
  | oamData => exact .ok _ rfl
  | data =>
    exact .bind (ppuRead_sameButD ..) fun _ _ =>
      .ite (.ok _ rfl) (.bind (ppuRead_sameButD ..) fun _ _ => .ok _ rfl)

theorem memRead_sameButD (a : Word) : SameButD d (memRead pc0 a s) (memRead pc0 a (s.withD d)) := by
  refine .ite (.ok _ rfl) (.ite (readPort_sameButD ..) (.ite (.fault ..) ?_))
  rw [State.setFlag_cart]
  cases s.cart with
  | some c => exact .ok _ rfl
  | none => exact .fault ..

theorem chrWrite_sameButD (c : Cartridge) (a : BitVec 14) (b : Byte) :
    SameButD d (chrWrite pc0 c a b s) (chrWrite pc0 c a b (s.withD d)) := by
  refine .ite (.ok _ rfl) ?_
  rw [State.setFlag_params]
  cases s.params.chrRomWrite with
  | fault => exact .fault ..
  | ignore => exact .ok _ rfl

theorem ppuWrite_sameButD (a : BitVec 14) (b : Byte) :
    SameButD d (ppuWrite pc0 a b s) (ppuWrite pc0 a b (s.withD d)) := by
  rw [ppuWrite, ppuWrite, State.setFlag_cart]
  cases s.cart with
  | some c => exact .ite (chrWrite_sameButD ..) (.ite (.ok _ rfl) (.ok _ rfl))
  | none => exact .ite (.fault ..) (.ite (.fault ..) (.ok _ rfl))

theorem writePort_sameButD (port : PpuPort) (b : Byte) :
    SameButD d (writePort pc0 port b s) (writePort pc0 port b (s.withD d)) := by
  cases port with
  | data => exact .bind (ppuWrite_sameButD ..) fun _ _ => .ok _ rfl
  | ctrl | mask | status | oamAddr | oamData | scroll | addr => exact .ok _ rfl

theorem memWrite_sameButD (a : Word) (b : Byte) :
    SameButD d (memWrite pc0 a b s) (memWrite pc0 a b (s.withD d)) :=
  .ite (.ok _ rfl) (.ite (writePort_sameButD ..) (.fault ..))

theorem push_sameButD (b : Byte) : SameButD d (push pc0 b s) (push pc0 b (s.withD d)) :=
  .bind (memWrite_sameButD ..) fun _ _ => .ok _ rfl

theorem pull_sameButD : SameButD d (pull pc0 s) (pull pc0 (s.withD d)) :=
  memRead_sameButD d pc0 { s with sp := s.sp + 1 } _

theorem resolve_sameButD (m : MemOperand) : SameButD d (resolve pc0 m s) (resolve pc0 m (s.withD d)) := by
  cases m with
  | indirect ptr => exact .bind (memRead_sameButD ..) fun _ _ => .bind (memRead_sameButD ..) fun _ _ => .ok _ rfl
  | indirectX zp => simp only [resolve, read16Zp_eq, Result.bind_ok]; exact .ok _ rfl
  | indirectY zp => simp only [resolve, read16Zp_eq, Result.bind_ok]; exact .ok _ rfl
  | zeroPage | zeroPageX | zeroPageY | absolute | absoluteX | absoluteY => exact .ok _ rfl

theorem readSource_sameButD (src : Source) : SameButD d (readSource pc0 src s) (readSource pc0 src (s.withD d)) := by
  cases src with
  | imm b => exact .ok _ rfl
  | mem m => exact .bind (resolve_sameButD ..) fun _ _ => .bind (memRead_sameButD ..) fun _ _ => .ok _ rfl

/-! ## The updates of P -/

/-- An update of another flag commutes with D's. -/
theorem setFlag_withD (k : Fin 8) (on : Bool) (h : k ≠ 3 := by decide) :
    (s.withD d).setFlag ((1 : Byte) <<< k.val) on = (s.setFlag ((1 : Byte) <<< k.val) on).withD d :=
  congrArg (fun p => { s with p := p }) (setFlag_comm h on d s.p)

theorem setNZ_withD (v : Byte) : (s.withD d).setNZ v = (s.setNZ v).withD d :=
  (congrArg (State.setFlag maskN v.msb) (setFlag_withD d s 1 (v == 0))).trans (setFlag_withD d _ 7 v.msb)

/-- C is read beside D. -/
theorem carryIn_setFlagD (p : Byte) : carryIn (setFlag maskD d p) = carryIn p := by
  have carry : flag maskC (setFlag maskD d p) = flag maskC p := flag_setFlag (j := 0) (k := 3) (by decide) d p
  rw [carryIn, carry, carryIn]

/-- AddCore in terms of the updates of P (42_arith_logic.md rule R240), for a sum already made. -/
def State.loadSum (m : Byte) (sum : Nat) (s : State) : State :=
  (({ s with a := BitVec.ofNat 8 sum }.setFlag maskC (decide (sum > 0xFF))).setFlag maskV
    (adderOverflow s.a m (BitVec.ofNat 8 sum))).setNZ (BitVec.ofNat 8 sum)

theorem addCore_eq_loadSum (m : Byte) : s.addCore m = s.loadSum m (adderSum s.a m s.p) := rfl

theorem loadSum_withD (m : Byte) (sum : Nat) : (s.withD d).loadSum m sum = (s.loadSum m sum).withD d := by
  have carry := setFlag_withD d { s with a := BitVec.ofNat 8 sum } 0 (decide (sum > 0xFF))
  have overflow := (congrArg (State.setFlag maskV (adderOverflow s.a m (BitVec.ofNat 8 sum))) carry).trans
    (setFlag_withD d _ 6 _)
  exact (congrArg (State.setNZ (BitVec.ofNat 8 sum)) overflow).trans (setNZ_withD d _ _)

theorem addCore_withD (m : Byte) : (s.withD d).addCore m = (s.addCore m).withD d := by
  have sum : adderSum (s.withD d).a m (s.withD d).p = adderSum s.a m s.p :=
    congrArg (s.a.toNat + m.toNat + ·) (carryIn_setFlagD d s.p)
  rw [addCore_eq_loadSum, addCore_eq_loadSum, sum, loadSum_withD]

theorem compare_withD (r m : Byte) : (s.withD d).compare r m = (s.compare r m).withD d := by
  have carry := setFlag_withD d s 0 (decide (r.toNat ≥ m.toNat))
  have zero := (congrArg (State.setFlag maskZ (r == m)) carry).trans (setFlag_withD d _ 1 _)
  exact (congrArg (State.setFlag maskN (r - m).msb) zero).trans (setFlag_withD d _ 7 _)

/-! ## Handlers -/

/-- A handler's own effects neither read D nor write it. -/
def Handler.IgnoresD : Handler → Prop
  | .implied effect => ∀ s, effect (s.withD d) = (effect s).withD d
  | .stack effect => ∀ pc0 s, SameButD d (effect pc0 s) (effect pc0 (s.withD d))
  | .read effect => ∀ b s, effect b (s.withD d) = (effect b s).withD d
  | .store value => ∀ s, value (s.withD d) = value s
  | .rmw op => ∀ b s, op.value b (s.withD d) = op.value b s ∧ op.before b (s.withD d) = (op.before b s).withD d ∧
      op.after b (s.withD d) = (op.after b s).withD d
  | .branch mask _ => ∀ p, flag mask (setFlag maskD d p) = flag mask p
  | .jump => True
  | .call => True
  | .nop => True

/-- The shifts' results and carries do not depend on D. -/
theorem shiftOp_ignoresD {f : Byte → Byte → Shifted} (hf : ∀ m p, f m (setFlag maskD d p) = f m p) :
    (Handler.rmw (shiftOp f)).IgnoresD d := by
  refine fun m s => ⟨congrArg Shifted.value (hf m s.p), ?_, setNZ_withD d s m⟩
  have carry : (f m (s.withD d).p).carry = (f m s.p).carry := congrArg Shifted.carry (hf m s.p)
  simp only [shiftOp, carry]
  exact setFlag_withD d s 0 _

theorem shiftRol_ignoresD (m p : Byte) : shiftRol m (setFlag maskD d p) = shiftRol m p := by
  rw [shiftRol, shiftRol, carryIn_setFlagD]

theorem shiftRor_ignoresD (m p : Byte) : shiftRor m (setFlag maskD d p) = shiftRor m p := by
  rw [shiftRor, shiftRor, carryIn_setFlagD]

theorem incOp_ignoresD : (Handler.rmw incOp).IgnoresD d := fun b s => ⟨rfl, rfl, setNZ_withD d s b⟩

theorem decOp_ignoresD : (Handler.rmw decOp).IgnoresD d := fun b s => ⟨rfl, rfl, setNZ_withD d s b⟩

theorem andThen_ignoresD {op : RmwOp} {second : Byte → State → State} (h : (Handler.rmw op).IgnoresD d)
    (h' : (Handler.read second).IgnoresD d) : (Handler.rmw (op.andThen second)).IgnoresD d := by
  intro b s
  obtain ⟨value, before, after⟩ := h b s
  exact ⟨value, before, (congrArg (second b) after).trans (h' b _)⟩

/-- BIT writes Z, N and V from the operand and A (rule R246). -/
theorem bitEffect_withD (b : Byte) : bitEffect b (s.withD d) = (bitEffect b s).withD d := by
  have zero := setFlag_withD d s 1 (s.a &&& b == 0)
  have sign := (congrArg (State.setFlag maskN (b.getLsbD 7)) zero).trans (setFlag_withD d _ 7 _)
  exact (congrArg (State.setFlag maskV (b.getLsbD 6)) sign).trans (setFlag_withD d _ 6 _)

/-- The mnemonics that write D, or copy it to the stack or from it. -/
abbrev dMnemonics : List Mnemonic := [.sed, .cld, .plp, .rti, .php, .brk]

/-- The effects of the other mnemonics ignore D (10_state.md rule R36). -/
theorem handlerOf_ignoresD {m : Mnemonic} (hm : m ∉ dMnemonics) : (handlerOf m).IgnoresD d := by
  cases m
  case sed | cld | plp | rti | php | brk => exact absurd (by decide) hm
  case lda => exact fun b s => setNZ_withD d { s with a := b } b
  case and | ora | eor => exact fun _ s => setNZ_withD d { s with a := _ } _
  case ldx => exact fun b s => setNZ_withD d { s with x := b } b
  case ldy => exact fun b s => setNZ_withD d { s with y := b } b
  case lax => exact fun b s => setNZ_withD d { s with a := b, x := b } b
  case txa | tya => exact fun s => setNZ_withD d { s with a := _ } _
  case tax | tsx | inx | dex => exact fun s => setNZ_withD d { s with x := _ } _
  case tay | iny | dey => exact fun s => setNZ_withD d { s with y := _ } _
  case txs => exact fun _ => rfl
  case adc | sbc => exact fun _ s => addCore_withD d s _
  case cmp | cpx | cpy => exact fun b s => compare_withD d s _ b
  case bit => exact fun b s => bitEffect_withD d s b
  case inc => exact incOp_ignoresD d
  case dec => exact decOp_ignoresD d
  case asl | lsr => exact shiftOp_ignoresD d fun _ _ => rfl
  case rol => exact shiftOp_ignoresD d (shiftRol_ignoresD d)
  case ror => exact shiftOp_ignoresD d (shiftRor_ignoresD d)
  case dcp => exact andThen_ignoresD d (decOp_ignoresD d) fun b s => compare_withD d s s.a b
  case isc => exact andThen_ignoresD d (incOp_ignoresD d) fun _ s => addCore_withD d s _
  case slo | sre =>
    exact andThen_ignoresD d (shiftOp_ignoresD d fun _ _ => rfl) fun _ s => setNZ_withD d { s with a := _ } _
  case rla =>
    exact andThen_ignoresD d (shiftOp_ignoresD d (shiftRol_ignoresD d)) fun _ s => setNZ_withD d { s with a := _ } _
  case rra => exact andThen_ignoresD d (shiftOp_ignoresD d (shiftRor_ignoresD d)) fun b s => addCore_withD d s b
  case clc | sec => exact fun s => setFlag_withD d s 0 _
  case cli | sei => exact fun s => setFlag_withD d s 2 _
  case clv => exact fun s => setFlag_withD d s 6 _
  case bcc | bcs => exact flag_setFlag (j := 0) (k := 3) (by decide) d
  case beq | bne => exact flag_setFlag (j := 1) (k := 3) (by decide) d
  case bvc | bvs => exact flag_setFlag (j := 6) (k := 3) (by decide) d
  case bmi | bpl => exact flag_setFlag (j := 7) (k := 3) (by decide) d
  case pha => exact fun pc0 s => push_sameButD d pc0 s s.a
  case pla => exact fun pc0 s => .bind (pull_sameButD ..) fun b s => .ok _ (setNZ_withD d { s with a := b } b)
  case rts =>
    exact fun pc0 s => .bind (.bind (pull_sameButD ..) fun _ _ => .bind (pull_sameButD ..) fun _ _ => .ok _ rfl)
      fun _ _ => .ok _ rfl
  case sta | stx | sty | sax => exact fun _ => rfl
  case jmp | jsr | nop => exact trivial

/-- JSR pushes PC, which is not P. -/
theorem jsrEffect_sameButD (addr : Word) : SameButD d (jsrEffect addr pc0 s) (jsrEffect addr pc0 (s.withD d)) :=
  .bind (.bind (push_sameButD ..) fun _ _ => push_sameButD ..) fun _ _ => .ok _ rfl

theorem runStack_sameButD {effect : Word → State → Result Unit}
    (he : ∀ pc0 s, SameButD d (effect pc0 s) (effect pc0 (s.withD d))) (i : Instr) :
    NextSameButD d (runStack i effect s) (runStack i effect (s.withD d)) :=
  .of_result (.bind (he _ s) fun _ _ => .ok _ rfl)

theorem runRead_sameButD {effect : Byte → State → State} (he : (Handler.read effect).IgnoresD d) (i : Instr)
    (src : Source) : NextSameButD d (runRead i src effect s) (runRead i src effect (s.withD d)) :=
  .of_result (.bind (readSource_sameButD ..) fun _ _ => .ok _ (congrArg (charge i _ 0) (he _ _)))

theorem runStore_sameButD {value : State → Byte} (hv : (Handler.store value).IgnoresD d) (i : Instr)
    (m : MemOperand) : NextSameButD d (runStore i m value s) (runStore i m value (s.withD d)) := by
  refine .of_result (.bind (resolve_sameButD ..) fun _ u => ?_)
  rw [hv u]
  exact .bind (memWrite_sameButD ..) fun _ _ => .ok _ rfl

theorem runRmw_sameButD {op : RmwOp} (ho : (Handler.rmw op).IgnoresD d) (i : Instr) (loc : Location) :
    NextSameButD d (runRmw i loc op s) (runRmw i loc op (s.withD d)) := by
  cases loc with
  | acc =>
    obtain ⟨value, before, -⟩ := ho s.a s
    obtain ⟨-, -, after⟩ := ho (op.value s.a s) { op.before s.a s with a := op.value s.a s }
    simp only [runRmw, State.setFlag_a, value, before]
    exact .of_eq (congrArg (charge i false 0) after)
  | mem m =>
    refine .of_result (.bind (resolve_sameButD ..) fun r u => .bind (memRead_sameButD ..) fun b v => ?_)
    obtain ⟨value, before, -⟩ := ho b v
    rw [value, before]
    refine .bind (memWrite_sameButD ..) fun _ w => .ok _ ?_
    obtain ⟨-, -, after⟩ := ho (op.value b v) w
    exact congrArg (charge i r.crossed 0) after

theorem runBranch_sameButD {mask : Byte} {want : Bool} (hm : (Handler.branch mask want).IgnoresD d) (i : Instr)
    (off : Int) : NextSameButD d (runBranch i off mask want s) (runBranch i off mask want (s.withD d)) := by
  simp only [runBranch, State.setFlag_p, hm s.p]
  split <;> exact .of_eq rfl

/-- A handler whose effects ignore D answers the same on every operand, D apart. -/
theorem Handler.run_sameButD {h : Handler} (hd : h.IgnoresD d) (i : Instr) (o : Operand) :
    NextSameButD d (h.run i o s) (h.run i o (s.withD d)) := by
  unfold Handler.run
  split
  · exact .of_eq (congrArg (charge i false 0) (hd s))
  · exact runStack_sameButD d s hd i
  · exact runRead_sameButD d s hd i _
  · exact runRead_sameButD d s hd i _
  · exact runStore_sameButD d s hd i _
  · exact runRmw_sameButD d s hd i .acc
  · exact runRmw_sameButD d s hd i _
  · exact runBranch_sameButD d s hd i _
  · exact .of_result (.bind (resolve_sameButD ..) fun _ _ => .ok _ rfl)
  · exact runStack_sameButD d s (fun pc0 s => jsrEffect_sameButD d pc0 s _) i
  · exact .of_eq rfl
  · exact .of_eq rfl
  · exact .of_result (.bind (resolve_sameButD ..) fun _ _ => .ok _ rfl)
  · exact ⟨fun _ k => nomatch k⟩

end

/-- Settles O53: no operation of such an instruction reads D, so it ends in the same state, D apart. -/
theorem decimalFlagAffectsNothingElse : Obligations.DecimalFlagAffectsNothingElse := by
  unfold Obligations.DecimalFlagAffectsNothingElse
  intro i s t d hm h
  rw [exec_eq_perform, perform] at h ⊢
  exact (Handler.run_sameButD d s (handlerOf_ignoresD d hm) i i.operand).next t h

end Sys2Proof.Machine
end

section
/-! SUPPORT. The CPU bus map and RAM's mirrors, and the registers behind the PPU's ports (20_memory.md rules R82 to R84,
R100 to R109). -/

namespace Sys2Proof.Machine

/-! ## The CPU bus -/

/-- A mask of low bits takes the remainder by a power of two. -/
theorem toNat_and_lowMask {w : Nat} (a mask : BitVec w) (n : Nat) (h : mask.toNat = 2 ^ n - 1) :
    (a &&& mask).toNat = a.toNat % 2 ^ n := by
  rw [BitVec.toNat_and, h, Nat.and_two_pow_sub_one_eq_mod]

/-- RAM is mirrored by the low 11 bits of the address (rule R82). -/
theorem ramIndex_eq_and (a : Word) : ramIndex a = (a &&& 0x07FF).toNat := (toNat_and_lowMask a _ 11 rfl).symm

/-- PRG is mirrored by its own length (rule R131). -/
theorem prgIndex_kb16 (a : Word) : prgIndex .kb16 a = (a &&& 0x3FFF).toNat := (toNat_and_lowMask a _ 14 rfl).symm

theorem prgIndex_kb32 (a : Word) : prgIndex .kb32 a = (a &&& 0x7FFF).toNat := (toNat_and_lowMask a _ 15 rfl).symm

/-- The ports in the order of `a & 7` (rule R100). -/
abbrev ports : List PpuPort := [.ctrl, .mask, .status, .oamAddr, .oamData, .scroll, .addr, .data]

theorem ports_getElem? (a : Word) : ports[(a &&& 7).toNat]? = some (portOf a) := by
  rw [toNat_and_lowMask a 7 3 rfl, portOf]
  have lt := Nat.mod_lt a.toNat (by decide : 0 < 8)
  generalize a.toNat % 8 = k at lt ⊢
  interval_cases k <;> rfl

/-- Settles O13: each range of the map has its rule, and the masks of rules R82, R100 and R131 are remainders. -/
theorem cpuBusRoutesByAddress : Obligations.CpuBusRoutesByAddress := by
  unfold Obligations.CpuBusRoutesByAddress
  intro pc0 a d s
  refine ⟨fun ram => ?_, fun lo hi port hp => ?_, memRead_unmapped, fun prg c hc => ?_, memWrite_unmapped⟩
  · rw [← ramIndex_eq_and]
    exact ⟨memRead_ram ram, memWrite_ram ram⟩
  · obtain rfl := Option.some.inj ((ports_getElem? a).symm.trans hp)
    exact ⟨memRead_port lo hi, memWrite_port lo hi⟩
  · rw [memRead_prg prg hc]
    cases c.prgSize with
    | kb16 => rw [prgIndex_kb16]
    | kb32 => rw [prgIndex_kb32]

/-- Two addresses below $2000 name one byte of RAM exactly when their low 11 bits agree. -/
theorem ramIndex_eq_iff (a b : Word) : ramIndex b = ramIndex a ↔ a &&& 0x07FF = b &&& 0x07FF := by
  rw [ramIndex_eq_and, ramIndex_eq_and, ← BitVec.toNat_inj, eq_comm]

/-- Settles O14: both accesses go to RAM, where a read after a write compares the indexes. -/
theorem ramReadsBackThroughMirrors : Obligations.RamReadsBackThroughMirrors := by
  unfold Obligations.RamReadsBackThroughMirrors
  intro pc0 a b d s hw ha hb
  refine ⟨_, memWrite_ram ha, ?_⟩
  rw [memRead_ram hb, Memory.read_write_of_wf hw, if_congr (ramIndex_eq_iff a b) rfl rfl, ramIndex_eq_and b]

/-! ## Reads of the status port and of write-only ports -/

/-- A mask keeps the bits `keep` names and clears the others. -/
theorem getLsbD_and_mask {mask : Byte} {keep : Nat → Bool} (h : ∀ k < 8, mask.getLsbD k = keep k) (b : Byte) {k : Nat}
    (hk : k < 8) : (b &&& mask).getLsbD k = (keep k && b.getLsbD k) := by
  rw [BitVec.getLsbD_and, h k hk, Bool.and_comm]

/-- Settles O15: $E0 masks bits 7 to 5 of the byte returned, and $7F clears VBlank alone. -/
theorem statusReadClearsVBlankAndToggle : Obligations.StatusReadClearsVBlankAndToggle := by
  unfold Obligations.StatusReadClearsVBlankAndToggle
  intro pc0 s
  have flags : ∀ k < 8, (0xE0 : Byte).getLsbD k = decide (5 ≤ k) := by decide
  have notVBlank : ∀ k < 8, (0x7F : Byte).getLsbD k = decide (k ≠ 7) := by decide
  exact ⟨_, _, rfl, fun k => getLsbD_and_mask flags _, fun k => getLsbD_and_mask notVBlank _⟩

/-- The ports that cannot be read (rule R101). -/
theorem readPort_writeOnly {port : PpuPort} (h : port ∈ [PpuPort.ctrl, .mask, .oamAddr, .scroll, .addr]) (pc0 : Word)
    (s : State) : readPort pc0 port s = readOpenBus s := by
  cases port with
  | ctrl | mask | oamAddr | scroll | addr => rfl
  | status | oamData | data => exact absurd h (by decide)

/-- Settles O16: every write-only port reads the open bus, which the parameter gives or a draw. -/
theorem writeOnlyPortsReadTheOpenBus : Obligations.WriteOnlyPortsReadTheOpenBus := by
  unfold Obligations.WriteOnlyPortsReadTheOpenBus
  intro pc0 s port hp
  rw [readPort_writeOnly hp, readOpenBus]
  refine ⟨fun b hb => ?_, fun hd => ⟨Config.openBusDraw s.draws, ?_⟩, fun _ => rfl⟩
  · rw [hb]
  · rw [hd]

/-! ## Writes of the register ports

A port that writes a part of `t` keeps the bits of a mask and puts new bits where the mask is clear. -/

section
variable {w len start : Nat} {mask new : BitVec w}

/-- A field within the mask is kept. -/
theorem extractLsb'_merge_kept (t : BitVec w) (hm : mask.extractLsb' start len = BitVec.allOnes len)
    (hn : new.extractLsb' start len = 0) :
    (t &&& mask ||| new).extractLsb' start len = t.extractLsb' start len := by
  rw [BitVec.extractLsb'_or, BitVec.extractLsb'_and, hm, hn, BitVec.and_allOnes]
  exact BitVec.or_zero

/-- A field outside the mask is the new one. -/
theorem extractLsb'_merge_new (t : BitVec w) {field : BitVec len} (hm : mask.extractLsb' start len = 0)
    (hn : new.extractLsb' start len = field) : (t &&& mask ||| new).extractLsb' start len = field := by
  rw [BitVec.extractLsb'_or, BitVec.extractLsb'_and, hm, hn, BitVec.ofNat_eq_ofNat, BitVec.and_zero, BitVec.zero_or]

end

/-- The bits a Ctrl write puts into t: the nametable, t[11:10] (rule R103). -/
abbrev ctrlBits (d : Byte) : BitVec 15 := (d &&& 0x03).setWidth 15 <<< 10

theorem ctrlBits_fields (d : Byte) : (ctrlBits d).extractLsb' 10 2 = d.extractLsb' 0 2 ∧
    (ctrlBits d).extractLsb' 0 10 = 0 ∧ (ctrlBits d).extractLsb' 12 3 = 0 := by
  revert d; decide

/-- A Ctrl write sets the register and t[11:10] and keeps the rest of t. -/
theorem writeCtrl_eq (d : Byte) (p : Ppu) : ∃ t : BitVec 15, p.writeCtrl d = { p with ctrl := d, t := t } ∧
    t.extractLsb' 10 2 = d.extractLsb' 0 2 ∧ t.extractLsb' 0 10 = p.t.extractLsb' 0 10 ∧
    t.extractLsb' 12 3 = p.t.extractLsb' 12 3 := by
  obtain ⟨nametable, below, above⟩ := ctrlBits_fields d
  exact ⟨_, rfl, extractLsb'_merge_new _ (by decide) nametable, extractLsb'_merge_kept _ (by decide) below,
    extractLsb'_merge_kept _ (by decide) above⟩

/-- Settles O17: the ports write and read what `writePort` and `readPort` name; t's fields are those of the merge. -/
theorem ctrlMaskAndOamPorts : Obligations.CtrlMaskAndOamPorts := by
  unfold Obligations.CtrlMaskAndOamPorts
  intro pc0 d s
  obtain ⟨t, ht, fields⟩ := writeCtrl_eq d s.ppu
  refine ⟨⟨t, ?_, fields⟩, rfl, rfl, rfl, ⟨_, rfl, fun hw k => Memory.read_write_of_wf hw _ k d⟩⟩
  rw [writePort, ht]

/-- The bits the first Scroll write puts into t: coarse X (rule R108). -/
abbrev scrollXBits (d : Byte) : BitVec 15 := (d >>> 3).setWidth 15

theorem scrollXBits_fields (d : Byte) : (scrollXBits d).extractLsb' 0 5 = d.extractLsb' 3 5 ∧
    (scrollXBits d).extractLsb' 5 10 = 0 := by
  revert d; decide

/-- The bits the second Scroll write puts into t: fine Y and coarse Y. -/
abbrev scrollYBits (d : Byte) : BitVec 15 := (d &&& 0x07).setWidth 15 <<< 12 ||| (d &&& 0xF8).setWidth 15 <<< 2

theorem scrollYBits_fields (d : Byte) : (scrollYBits d).extractLsb' 12 3 = d.extractLsb' 0 3 ∧
    (scrollYBits d).extractLsb' 5 5 = d.extractLsb' 3 5 ∧ (scrollYBits d).extractLsb' 0 5 = 0 ∧
    (scrollYBits d).extractLsb' 10 2 = 0 := by
  revert d; decide

/-- The bits the first Addr write puts into t: t[13:8] (rule R109). -/
abbrev addrHighBits (d : Byte) : BitVec 15 := (d &&& 0x3F).setWidth 15 <<< 8

theorem addrHighBits_fields (d : Byte) : (addrHighBits d).extractLsb' 8 6 = d.extractLsb' 0 6 ∧
    (addrHighBits d).extractLsb' 14 1 = 0 ∧ (addrHighBits d).extractLsb' 0 8 = 0 := by
  revert d; decide

/-- The bits the second Addr write puts into t: t[7:0]. -/
abbrev addrLowBits (d : Byte) : BitVec 15 := d.setWidth 15

theorem addrLowBits_fields (d : Byte) : (addrLowBits d).extractLsb' 0 8 = d ∧
    (addrLowBits d).extractLsb' 8 7 = 0 := by
  revert d; decide

section
variable (d : Byte) {p : Ppu}

/-- The first Scroll write: coarse X into t, fine X into x. -/
theorem writeScroll_first (hw : p.w = false) : ∃ t : BitVec 15,
    p.writeScroll d = { p with t := t, x := d.extractLsb' 0 3, w := true } ∧
      t.extractLsb' 0 5 = d.extractLsb' 3 5 ∧ t.extractLsb' 5 10 = p.t.extractLsb' 5 10 := by
  obtain ⟨coarse, rest⟩ := scrollXBits_fields d
  have fine : d.setWidth 3 = d.extractLsb' 0 3 := BitVec.setWidth_eq_extractLsb' (by decide)
  refine ⟨(p.t &&& 0x7FE0) ||| scrollXBits d, ?_, extractLsb'_merge_new _ (by decide) coarse,
    extractLsb'_merge_kept _ (by decide) rest⟩
  rw [← fine]
  exact if_neg (Bool.eq_false_iff.mp hw)

/-- The second Scroll write: fine and coarse Y into t. -/
theorem writeScroll_second (hw : p.w = true) : ∃ t : BitVec 15,
    p.writeScroll d = { p with t := t, w := false } ∧
      t.extractLsb' 12 3 = d.extractLsb' 0 3 ∧ t.extractLsb' 5 5 = d.extractLsb' 3 5 ∧
      t.extractLsb' 0 5 = p.t.extractLsb' 0 5 ∧ t.extractLsb' 10 2 = p.t.extractLsb' 10 2 := by
  obtain ⟨fine, coarse, below, between⟩ := scrollYBits_fields d
  refine ⟨(p.t &&& 0x0C1F) ||| scrollYBits d, ?_, extractLsb'_merge_new _ (by decide) fine,
    extractLsb'_merge_new _ (by decide) coarse, extractLsb'_merge_kept _ (by decide) below,
    extractLsb'_merge_kept _ (by decide) between⟩
  rw [scrollYBits, ← BitVec.or_assoc]
  exact if_pos hw

/-- The first Addr write: t[13:8], with t[14] cleared. -/
theorem writeAddr_first (hw : p.w = false) : ∃ t : BitVec 15,
    p.writeAddr d = { p with t := t, w := true } ∧
      t.extractLsb' 8 6 = d.extractLsb' 0 6 ∧ t.extractLsb' 14 1 = 0 ∧
      t.extractLsb' 0 8 = p.t.extractLsb' 0 8 := by
  obtain ⟨high, top, low⟩ := addrHighBits_fields d
  refine ⟨(p.t &&& 0x00FF) ||| addrHighBits d, ?_, extractLsb'_merge_new _ (by decide) high,
    extractLsb'_merge_new _ (by decide) top, extractLsb'_merge_kept _ (by decide) low⟩
  exact if_neg (Bool.eq_false_iff.mp hw)

/-- The second Addr write: t[7:0], and t is copied to v. -/
theorem writeAddr_second (hw : p.w = true) : ∃ t : BitVec 15,
    p.writeAddr d = { p with t := t, v := t, w := false } ∧
      t.extractLsb' 0 8 = d ∧ t.extractLsb' 8 7 = p.t.extractLsb' 8 7 := by
  obtain ⟨low, high⟩ := addrLowBits_fields d
  refine ⟨(p.t &&& 0x7F00) ||| addrLowBits d, ?_, extractLsb'_merge_new _ (by decide) low,
    extractLsb'_merge_kept _ (by decide) high⟩
  exact if_pos hw

end

/-- Settles O18: each of the four writes puts its fields into t and keeps t's others. -/
theorem scrollAndAddrWritesFillT : Obligations.ScrollAndAddrWritesFillT := by
  unfold Obligations.ScrollAndAddrWritesFillT
  intro pc0 d s
  refine ⟨fun hw => ?_, fun hw => ?_, fun hw => ?_, fun hw => ?_⟩
  · obtain ⟨t, ht, fields⟩ := writeScroll_first d hw
    exact ⟨t, by rw [writePort, ht], fields⟩
  · obtain ⟨t, ht, fields⟩ := writeScroll_second d hw
    exact ⟨t, by rw [writePort, ht], fields⟩
  · obtain ⟨t, ht, fields⟩ := writeAddr_first d hw
    exact ⟨t, by rw [writePort, ht], fields⟩
  · obtain ⟨t, ht, fields⟩ := writeAddr_second d hw
    exact ⟨t, by rw [writePort, ht], fields⟩

end Sys2Proof.Machine
end

section
/-! SUPPORT. The PPU bus behind the data port, and its mirrors (20_memory.md rules R110, R111, R120 to R123). -/

namespace Sys2Proof.Machine

/-! ## What the bus finds by address -/

/-- The 14-bit bus address is the low part of v (D35). -/
theorem busAddress_eq (v : BitVec 15) : busAddress v = v.extractLsb' 0 14 :=
  BitVec.setWidth_eq_extractLsb' (by decide)

section
variable {a : BitVec 14} {s : State} {c : Cartridge}

theorem ppuRead_chr (pc0 : Word) (hc : s.cart = some c) (hi : a.toNat < 0x2000) :
    ppuRead pc0 a s = .ok (c.chr.read a.toNat) s := by
  rw [ppuRead, ppuPeek, if_pos hi, hc]; rfl

theorem ppuRead_nametable (pc0 : Word) (hc : s.cart = some c) (lo : 0x2000 ≤ a.toNat) (hi : a.toNat < 0x3F00) :
    ppuRead pc0 a s = .ok (s.ppu.vram.read (ntIndex c.mirroring a)) s := by
  rw [ppuRead, ppuPeek, if_neg (Nat.not_lt.mpr lo), if_pos hi, hc]; rfl

theorem ppuRead_palette (pc0 : Word) (s : State) (lo : 0x3F00 ≤ a.toNat) :
    ppuRead pc0 a s = .ok (s.ppu.pal.read (palIndex a)) s := by
  rw [ppuRead, ppuPeek, if_neg (by omega), if_neg (by omega)]

theorem ppuWrite_chr (pc0 : Word) (d : Byte) (hc : s.cart = some c) (hi : a.toNat < 0x2000) :
    ppuWrite pc0 a d s = chrWrite pc0 c a d s := by
  rw [ppuWrite, if_pos hi, hc]

theorem ppuWrite_nametable (pc0 : Word) (d : Byte) (hc : s.cart = some c) (lo : 0x2000 ≤ a.toNat)
    (hi : a.toNat < 0x3F00) : ppuWrite pc0 a d s =
      .ok () { s with ppu := { s.ppu with vram := s.ppu.vram.write (ntIndex c.mirroring a) d } } := by
  rw [ppuWrite, if_neg (Nat.not_lt.mpr lo), if_pos hi, hc]

theorem ppuWrite_palette (pc0 : Word) (d : Byte) (s : State) (lo : 0x3F00 ≤ a.toNat) :
    ppuWrite pc0 a d s = .ok () { s with ppu := { s.ppu with pal := s.ppu.pal.write (palIndex a) d } } := by
  rw [ppuWrite, if_neg (by omega), if_neg (by omega)]

end

/-! ## The data port -/

/-- Below the palette a data read returns the buffer and refills it (rule R110). -/
theorem readData_buffered {pc0 : Word} {s : State} {b : Byte} (hi : (busAddress s.ppu.v).toNat < 0x3F00)
    (h : ppuRead pc0 (busAddress s.ppu.v) s = .ok b s) : readData pc0 s =
      .ok s.ppu.rdbuf { s with ppu := { s.ppu with rdbuf := b, v := nextVram s.ppu } } := by
  simp only [readData, h, Result.bind_ok, if_pos hi]

/-- In the palette a data read is direct, and the buffer takes the nametable byte $1000 beneath. -/
theorem readData_palette {pc0 : Word} {s : State} {c : Cartridge} (hc : s.cart = some c)
    (lo : 0x3F00 ≤ (busAddress s.ppu.v).toNat) : readData pc0 s = .ok (s.ppu.pal.read (palIndex (busAddress s.ppu.v)))
      { s with ppu := { s.ppu with
        rdbuf := s.ppu.vram.read (ntIndex c.mirroring (busAddress s.ppu.v - 0x1000)), v := nextVram s.ppu } } := by
  have beneath : 0x2000 ≤ (busAddress s.ppu.v - 0x1000).toNat ∧ (busAddress s.ppu.v - 0x1000).toNat < 0x3F00 := by
    bv_omega
  simp only [readData, ppuRead_palette pc0 s lo, Result.bind_ok, if_neg (Nat.not_lt.mpr lo),
    ppuRead_nametable pc0 hc beneath.1 beneath.2]

/-- Settles O19: by the range of the address, with v stepping as `nextVram` says. -/
theorem dataPortReadIsBuffered : Obligations.DataPortReadIsBuffered := by
  unfold Obligations.DataPortReadIsBuffered
  intro pc0 s c a v hc ha hv
  obtain rfl : v = nextVram s.ppu := hv
  obtain rfl := ha.trans (busAddress_eq s.ppu.v).symm
  exact ⟨fun hi => readData_buffered (by omega) (ppuRead_chr pc0 hc hi),
    fun lo hi => readData_buffered hi (ppuRead_nametable pc0 hc lo hi), fun lo => readData_palette hc lo⟩

/-- Settles O20: the PPU-bus write goes by the range of the address and keeps v and ctrl, so v steps from its old
value. -/
theorem dataPortWriteGoesByAddress : Obligations.DataPortWriteGoesByAddress := by
  unfold Obligations.DataPortWriteGoesByAddress
  intro pc0 d s c a v hc ha hv
  obtain rfl : v = nextVram s.ppu := hv
  obtain rfl := ha.trans (busAddress_eq s.ppu.v).symm
  simp only [writePort, writeData]
  refine ⟨fun hi ram => ?_, fun hi rom ignore => ?_, fun hi rom fault => ?_, fun lo hi => ?_, fun lo => ?_⟩
  · rw [ppuWrite_chr pc0 d hc hi, chrWrite, if_pos ram]; rfl
  · rw [ppuWrite_chr pc0 d hc hi, chrWrite, if_neg (by simp [rom]), ignore]; rfl
  · rw [ppuWrite_chr pc0 d hc hi, chrWrite, if_neg (by simp [rom]), fault]; rfl
  · rw [ppuWrite_nametable pc0 d hc lo hi]; rfl
  · rw [ppuWrite_palette pc0 d s lo]; rfl

/-! ## Mirrors -/

/-- Vertical mirroring takes address bit 10: the tables repeat every $800 bytes (rule R122). -/
theorem ntIndex_vertical (a : BitVec 14) : ntIndex .vertical a = (a &&& 0x07FF).toNat := by
  rw [toNat_and_lowMask a _ 11 rfl, ntIndex]
  omega

/-- Horizontal mirroring takes address bit 11 as the index's bit 10. -/
theorem ntIndex_horizontal (a : BitVec 14) : ntIndex .horizontal a = (a >>> 1 &&& 0x0400 ||| a &&& 0x03FF).toNat := by
  have low : (a &&& 0x03FF).toNat = a.toNat % 2 ^ 10 := toNat_and_lowMask a _ 10 rfl
  have high : (a >>> 1 &&& 0x0400).toNat = 2 ^ 10 * (a.toNat / 2 ^ 11 % 2) := by
    have bit : (a >>> 1 &&& 0x0400).toNat = (a.toNat >>> 1) &&& 2 ^ 10 := rfl
    rw [bit, Nat.and_two_pow, Nat.toNat_testBit, Nat.shiftRight_eq_div_pow]
    omega
  rw [BitVec.toNat_or, high, low, ← Nat.two_pow_add_eq_or_of_lt (Nat.mod_lt _ (by decide)), ntIndex]
  omega

/-- The nametables repeat at $1000 (rule R122). -/
theorem ntIndex_add_0x1000 (m : Mirroring) {a : BitVec 14} (h : a.toNat < 0x3000) :
    ntIndex m (a + 0x1000) = ntIndex m a := by
  have up : (a + 0x1000).toNat = a.toNat + 0x1000 := by bv_omega
  cases m with
  | vertical => simp only [ntIndex, up]; omega
  | horizontal => simp only [ntIndex, up]; omega

/-- The palette's address is its low 5 bits. -/
theorem and_0x1F_eq (a : BitVec 14) : a &&& 0x1F = BitVec.ofNat 14 (a.toNat % 32) :=
  BitVec.eq_of_toNat_eq ((toNat_and_lowMask a _ 5 rfl).trans (Nat.mod_eq_of_lt (by omega)).symm)

/-- The palette index by number: the sprite backdrops are the addresses of the upper half divisible by 4 (rule R123). -/
theorem palIndex_eq (a : BitVec 14) : palIndex a =
    if 16 ≤ a.toNat % 32 ∧ a.toNat % 32 % 4 = 0 then a.toNat % 32 - 16 else a.toNat % 32 := by
  have table : ∀ i < 32, (if BitVec.ofNat 14 i &&& 0x13 = 0x10 then (BitVec.ofNat 14 i &&& 0x0F).toNat
      else (BitVec.ofNat 14 i).toNat) = if 16 ≤ i ∧ i % 4 = 0 then i - 16 else i := by decide
  rw [palIndex, and_0x1F_eq]
  exact table _ (Nat.mod_lt _ (by decide))

/-- The addresses of the sprite backdrops, by number. -/
theorem spriteBackdrop_iff (a : BitVec 14) : a &&& 0x13 = 0x10 ↔ 16 ≤ a.toNat % 32 ∧ a.toNat % 32 % 4 = 0 := by
  have table : ∀ i < 32, BitVec.ofNat 14 i &&& 0x13 = 0x10 ↔ 16 ≤ i ∧ i % 4 = 0 := by decide
  have low : a &&& 0x13 = a &&& 0x1F &&& 0x13 := (BitVec.and_assoc a 0x1F 0x13).symm
  rw [low, and_0x1F_eq]
  exact table _ (Nat.mod_lt _ (by decide))

/-- The palette repeats every 32 bytes. -/
theorem palIndex_add_0x20 (a : BitVec 14) : palIndex (a + 0x20) = palIndex a := by
  have low : (a + 0x20).toNat % 32 = a.toNat % 32 := by bv_omega
  rw [palIndex_eq, palIndex_eq, low]

/-- A sprite backdrop is the background's 16 bytes below it. -/
theorem palIndex_spriteBackdrop {a : BitVec 14} (h : a &&& 0x13 = 0x10) : palIndex a = palIndex (a - 0x10) := by
  have sprite := (spriteBackdrop_iff a).mp h
  have low : (a - 0x10).toNat % 32 = a.toNat % 32 - 16 := by bv_omega
  rw [palIndex_eq, palIndex_eq, low, if_pos sprite, if_neg (by omega)]

/-- Settles O21: the indexes as remainders, in which the mirrors are periods. -/
theorem nametableAndPaletteMirrors : Obligations.NametableAndPaletteMirrors := by
  unfold Obligations.NametableAndPaletteMirrors
  refine ⟨fun a => ⟨ntIndex_vertical a, ntIndex_horizontal a⟩, fun m a => ntIndex_add_0x1000 m, palIndex_add_0x20,
    fun a => palIndex_spriteBackdrop, fun a h => ?_⟩
  rw [palIndex_eq, if_neg ((spriteBackdrop_iff a).not.mp h)]
  exact (toNat_and_lowMask a _ 5 rfl).symm

end Sys2Proof.Machine
end

section
/-! SUPPORT. What stores and pushes change of the memories and the PPU (10_state.md rule R33, 20_memory.md rule R84,
40_addressing.md rule R196). -/

namespace Sys2Proof.Machine

/-! ## Stores -/

/-- What a bus write can reach: RAM, the PPU and the cartridge. -/
def State.busSide (s : State) : Memory × Ppu × Option Cartridge := (s.ram, s.ppu, s.cart)

theorem State.busSide_eq_iff {s t : State} :
    t.busSide = s.busSide ↔ t.ram = s.ram ∧ t.ppu = s.ppu ∧ t.cart = s.cart := by
  simp only [State.busSide, Prod.mk.injEq]

/-- A read-modify-write handler's own effects are on the CPU's registers; the store is the shape's. -/
def Handler.KeepsBusSide : Handler → Prop
  | .rmw op => ∀ b s, (op.before b s).busSide = s.busSide ∧ (op.after b s).busSide = s.busSide
  | _ => True

theorem handlerOf_keepsBusSide (m : Mnemonic) : (handlerOf m).KeepsBusSide := by
  cases m
  case inc | dec | asl | lsr | rol | ror | dcp | isc | slo | rla | sre | rra => exact fun _ _ => ⟨rfl, rfl⟩
  all_goals exact trivial

/-- Whether a handler writes its operand. -/
def Handler.writesOperand : Handler → Bool
  | .store _ => true
  | .rmw _ => true
  | _ => false

/-- A storing mnemonic other than JSR that takes an operand writes it; the pushes take none. -/
theorem writesOperand_of_takes {m : Mnemonic} {mode : Mode} (hm : m ∈ writesMemory) (hj : m ≠ .jsr)
    (ht : (handlerOf m).takes mode = true) (hn : mode ≠ .implied) : (handlerOf m).writesOperand = true := by
  cases m
  case sta | stx | sty | sax | inc | dec | asl | lsr | rol | ror | dcp | isc | slo | rla | sre | rra => rfl
  case pha | php | brk => exact absurd (eq_of_beq ht) hn
  case jsr => exact absurd rfl hj
  all_goals exact absurd hm (by decide)

/-- An effective address is that of a memory operand. -/
theorem operandAddress_eq_some {i : Instr} {s : State} {r : Resolved} (h : operandAddress i s = some r) :
    ∃ m, i.operand = .mem m ∧ dataAddress m s = some r := by
  unfold operandAddress at h
  cases ho : i.operand with
  | mem m => rw [ho] at h; exact ⟨m, rfl, h⟩
  | implied | accumulator | immediate | relative => rw [ho] at h; cases h

/-- A memory operand is not implied. -/
theorem mode_ne_implied {i : Instr} {m : MemOperand} (h : i.operand = .mem m) : i.operand.mode ≠ .implied := by
  rw [h]
  cases m <;> exact fun k => nomatch k

/-- `t` is `s` after at most a read of an address and then one write there, up to the CPU's registers. -/
def StoredAt (pc0 ea : Word) (s t : State) : Prop :=
  ∃ u v w d, (u = s ∨ ∃ b, memRead pc0 ea s = .ok b u) ∧ v.busSide = u.busSide ∧
    memWrite pc0 ea d v = .ok () w ∧ t.busSide = w.busSide

/-- A storing instruction with an operand writes one byte, at its effective address (rule R196). -/
theorem exec_storedAt {i : Instr} {s t : State} {r : Resolved} (hm : i.mnemonic ∈ writesMemory)
    (hj : i.mnemonic ≠ .jsr) (hr : operandAddress i s = some r) (h : exec i s = .next t) :
    StoredAt (startPc i s) r.ea s t := by
  obtain ⟨m, ho, ha⟩ := operandAddress_eq_some hr
  obtain ⟨t1, extra, hd, rfl, -, -⟩ := exec_next h
  have writes := writesOperand_of_takes hm hj (handler_takes i) (mode_ne_implied ho)
  have keeps := handlerOf_keepsBusSide i.mnemonic
  cases hh : handlerOf i.mnemonic <;> rw [hh] at hd writes keeps
  case store value =>
    obtain ⟨m', r', u, ho', h1, h2⟩ := hd
    obtain rfl := Operand.mem.inj (ho.symm.trans ho')
    rw [resolve_of_dataAddress ha] at h1
    cases h1
    exact ⟨s, s, t1, _, .inl rfl, rfl, h2, rfl⟩
  case rmw op =>
    rcases hd with ⟨acc, -⟩ | ⟨m', r', v, b, u, w, ho', h1, h2, h3, rfl⟩
    · rw [ho] at acc; cases acc
    · obtain rfl := Operand.mem.inj (ho.symm.trans ho')
      rw [resolve_of_dataAddress ha] at h1
      cases h1
      exact ⟨u, _, w, _, .inr ⟨b, h2⟩, (keeps b u).1, h3, (keeps _ w).2⟩
  all_goals cases writes

/-- A store to RAM changes its own byte (rule R84). -/
theorem StoredAt.ram {pc0 ea : Word} {s t : State} (h : StoredAt pc0 ea s t) (hw : s.ram.wf 0x800 = true)
    (hi : ea.toNat < 0x2000) :
    t.ppu = s.ppu ∧ t.cart = s.cart ∧ ∀ k, k ≠ ea.toNat % 0x800 → t.ram.read k = s.ram.read k := by
  obtain ⟨u, v, w, d, hu, hv, hwrite, ht⟩ := h
  obtain rfl : u = s := hu.elim id fun ⟨_, read⟩ => memRead_plain (.inl hi) read
  obtain ⟨vram, vppu, vcart⟩ := State.busSide_eq_iff.mp hv
  rw [memWrite_ram hi] at hwrite
  cases hwrite
  obtain ⟨tram, tppu, tcart⟩ := State.busSide_eq_iff.mp ht
  refine ⟨tppu.trans vppu, tcart.trans vcart, fun k hk => ?_⟩
  rw [tram, vram, Memory.read_write_of_wf hw]
  exact if_neg hk

/-- A write outside RAM keeps RAM. -/
theorem memWrite_keepsRam {pc0 ea : Word} {d : Byte} {s t : State} (lo : 0x2000 ≤ ea.toNat)
    (h : memWrite pc0 ea d s = .ok () t) : t.ram = s.ram := by
  by_cases hi : ea.toNat < 0x4000
  · rw [memWrite_port lo hi] at h
    exact (writePort_sameCpu h).2.1
  · rw [memWrite_unmapped (by omega)] at h
    cases h

/-- A store outside RAM keeps RAM. -/
theorem StoredAt.port {pc0 ea : Word} {s t : State} (h : StoredAt pc0 ea s t) (lo : 0x2000 ≤ ea.toNat) :
    t.ram = s.ram := by
  obtain ⟨u, v, w, d, hu, hv, hwrite, ht⟩ := h
  have uram : u.ram = s.ram := hu.elim (congrArg State.ram) fun ⟨_, read⟩ => (memRead_sameMemory read).1
  obtain ⟨vram, -, -⟩ := State.busSide_eq_iff.mp hv
  obtain ⟨tram, -, -⟩ := State.busSide_eq_iff.mp ht
  calc t.ram = w.ram := tram
    _ = v.ram := memWrite_keepsRam lo hwrite
    _ = u.ram := vram
    _ = s.ram := uram

/-! ## Pushes -/

/-- `t` is `s` after `n` pushes, up to the CPU's other registers: S is `n` lower, and RAM, in canonical form, differs at
most in the slots filled. -/
structure PushedBytes (n : Nat) (s t : State) : Prop where
  ppu : t.ppu = s.ppu
  cart : t.cart = s.cart
  sp : t.sp = s.sp - BitVec.ofNat 8 n
  ramWf : t.ram.wf 0x800 = true
  ram : ∀ k, (∀ j, j < n → k ≠ 0x100 + (s.sp - BitVec.ofNat 8 j).toNat) → t.ram.read k = s.ram.read k

theorem PushedBytes.refl {s : State} (h : s.ram.wf 0x800 = true) : PushedBytes 0 s s :=
  ⟨rfl, rfl, (BitVec.sub_zero _).symm, h, fun _ _ => rfl⟩

/-- One more push fills the next slot (rule R33). -/
theorem PushedBytes.push {n : Nat} {s t : State} (h : PushedBytes n s t) (d : Byte) :
    PushedBytes (n + 1) s (t.pushed d) where
  ppu := h.ppu
  cart := h.cart
  sp := by
    have next : (t.pushed d).sp = t.sp - 1 := rfl
    rw [next, h.sp, BitVec.ofNat_add, BitVec.sub_sub]
    rfl
  ramWf := pushed_ramWf h.ramWf d
  ram k hk := by
    have slot : k ≠ 0x100 + t.sp.toNat := h.sp ▸ hk n n.lt_succ_self
    rw [State.pushed, Memory.read_write_of_wf h.ramWf, if_neg slot]
    exact h.ram k fun j hj => hk j (Nat.lt_succ_of_lt hj)

/-- A word is two pushes. -/
theorem PushedBytes.word {s : State} (h : s.ram.wf 0x800 = true) (w : Word) :
    PushedBytes 2 s ((s.pushed (highByte w)).pushed (lowByte w)) := ((PushedBytes.refl h).push _).push _

/-- Other registers do not matter. -/
theorem PushedBytes.of_eq {n : Nat} {s t t' : State} (h : PushedBytes n s t) (hb : t'.busSide = t.busSide)
    (hs : t'.sp = t.sp) : PushedBytes n s t' := by
  obtain ⟨ram, ppu, cart⟩ := State.busSide_eq_iff.mp hb
  exact ⟨ppu.trans h.ppu, cart.trans h.cart, hs.trans h.sp, ram ▸ h.ramWf, ram ▸ h.ram⟩

/-- A vector is read from PRG, which changes nothing (20_memory.md rule R89). -/
theorem read16_plain {pc0 a : Word} {s t : State} {w : Word} (h : read16 pc0 a s = .ok w t) (lo : 0x4000 ≤ a.toNat)
    (hi : 0x4000 ≤ (a + 1).toNat) : t = s := by
  obtain ⟨_, s1, h1, h⟩ := Result.bind_eq_ok.mp h
  obtain ⟨_, s2, h2, h⟩ := Result.bind_eq_ok.mp h
  cases h
  exact (memRead_plain (.inr hi) h2).trans (memRead_plain (.inr lo) h1)

/-- BRK pushes the return address and P; beside them it changes I and PC (rule R292). -/
theorem brkEffect_pushes {pc0 : Word} {s t : State} (hw : s.ram.wf 0x800 = true) (h : brkEffect pc0 s = .ok () t) :
    PushedBytes 3 s t := by
  simp only [brkEffect, enterInterrupt, push16_eq, push_eq, Result.bind_ok] at h
  obtain ⟨pc, u, h1, h2⟩ := Result.bind_eq_ok.mp h
  obtain rfl := read16_plain h1 (by decide) (by decide)
  cases h2
  have pushed := (PushedBytes.word hw (s.pc + 1)).push (pushedByInstruction s.p)
  exact pushed.of_eq rfl rfl

/-- JSR pushes its return address (rule R290). -/
theorem jsrEffect_pushes {addr pc0 : Word} {s t : State} (hw : s.ram.wf 0x800 = true)
    (h : jsrEffect addr pc0 s = .ok () t) : PushedBytes 2 s t := by
  simp only [jsrEffect, push16_eq, Result.bind_ok] at h
  cases h
  exact (PushedBytes.word hw (s.pc - 1)).of_eq rfl rfl

/-- PHA and PHP push one byte (rules R300, R301). -/
theorem push_pushes {pc0 : Word} {d : Byte} {s t : State} (hw : s.ram.wf 0x800 = true) (h : push pc0 d s = .ok () t) :
    PushedBytes 1 s t := by
  rw [push_eq] at h
  cases h
  exact (PushedBytes.refl hw).push d

/-- The pushing instructions, with the number of bytes each pushes. -/
abbrev pushCounts : List (Mnemonic × Nat) := [(.pha, 1), (.php, 1), (.jsr, 2), (.brk, 3)]

/-- A pushing instruction pushes its number of bytes and reaches no memory beside. -/
theorem exec_pushes {i : Instr} {n : Nat} {s t : State} (hm : (i.mnemonic, n) ∈ pushCounts) (h : exec i s = .next t)
    (hw : s.ram.wf 0x800 = true) : PushedBytes n s t := by
  obtain ⟨t1, extra, hd, rfl, -, -⟩ := exec_next h
  suffices pushes : PushedBytes n s t1 from pushes.of_eq rfl rfl
  simp only [List.mem_cons, Prod.mk.injEq, List.not_mem_nil, or_false] at hm
  rcases hm with ⟨m, rfl⟩ | ⟨m, rfl⟩ | ⟨m, rfl⟩ | ⟨m, rfl⟩ <;> rw [m] at hd
  · exact push_pushes hw hd
  · exact push_pushes hw hd
  · obtain ⟨addr, -, hj⟩ := hd
    exact jsrEffect_pushes hw hj
  · exact brkEffect_pushes hw hd

/-- Settles O52: a store is one bus write at the effective address, and a push fills the slots below S. -/
theorem storesChangeOnlyTheirBytes : Obligations.StoresChangeOnlyTheirBytes := by
  unfold Obligations.StoresChangeOnlyTheirBytes
  refine ⟨fun i s t r hm hr hj h hw => ?_, fun i s t n hm h hw => ?_⟩
  · have stored := exec_storedAt hm hj hr h
    exact ⟨stored.ram hw, stored.port⟩
  · have pushes := exec_pushes hm h hw
    exact ⟨pushes.ppu, pushes.cart, pushes.sp, pushes.ram⟩

end Sys2Proof.Machine
end

section
/-! SUPPORT. Which iNES images are accepted, and the slices an accepted one holds (20_memory.md rules R130 to R134). -/

namespace Sys2Proof.Machine

/-! ## Accepted images -/

/-- The acceptance condition of rules R130 and R134. -/
def ValidImage (bytes : List Byte) : Prop :=
  16 ≤ bytes.length ∧ bytes.take 4 = inesMagic ∧ ((imageByte bytes 4).toNat = 1 ∨ (imageByte bytes 4).toNat = 2) ∧
    (imageByte bytes 6).getLsbD 3 = false ∧ mapperNumber bytes = 0 ∧
    16 + trainerLength bytes + prgLength bytes + chrLength bytes ≤ bytes.length

/-- PRG is one or two units exactly when it has a size, which is its length in bytes (rule R11). -/
theorem prgSizeOf_isSome (units : Byte) :
    (prgSizeOf units).isSome = true ↔ units.toNat = 1 ∨ units.toNat = 2 := by
  revert units; decide

theorem prgSizeOf_bytes {units : Byte} {size : PrgSize} (h : prgSizeOf units = some size) :
    size.bytes = 16384 * units.toNat := by
  revert units size; decide

/-- A valid image is parsed into its slices. -/
theorem parse_of_valid {bytes : List Byte} (h : ValidImage bytes) :
    ∃ size, prgSizeOf (imageByte bytes 4) = some size ∧ parse bytes = .ok (sliceCartridge bytes size) := by
  obtain ⟨header, magic, prg, fourScreen, mapper, declared⟩ := h
  obtain ⟨size, hs⟩ := Option.isSome_iff_exists.mp ((prgSizeOf_isSome _).mpr prg)
  refine ⟨size, hs, ?_⟩
  simp only [parse, if_neg (Nat.not_lt.mpr header), magic, hs, fourScreen, mapper, if_neg (Nat.not_lt.mpr declared),
    ne_eq, not_true_eq_false, if_false, Bool.false_eq_true]

/-- Only a valid image is accepted. -/
theorem valid_of_parse {bytes : List Byte} {c : Cartridge} (h : parse bytes = .ok c) : ValidImage bytes := by
  unfold parse at h
  split at h
  · cases h
  rename_i header
  split at h
  · cases h
  rename_i magic
  split at h
  · cases h
  rename_i size hs
  split at h
  · cases h
  rename_i fourScreen
  split at h
  · cases h
  rename_i mapper
  split at h
  · cases h
  rename_i declared
  exact ⟨Nat.not_lt.mp header, not_not.mp magic, (prgSizeOf_isSome _).mp (Option.isSome_iff_exists.mpr ⟨size, hs⟩),
    Bool.not_eq_true _ ▸ fourScreen, not_not.mp mapper, Nat.not_lt.mp declared⟩

/-! ## Slices -/

/-- A slice of an image reads back its bytes. -/
theorem read_ofBytes_slice (bytes : List Byte) {start n k : Nat} (hk : k < n) :
    (Memory.ofBytes ((bytes.drop start).take n)).read k = imageByte bytes (start + k) := by
  have h := Memory.read_ofBytesFrom ((bytes.drop start).take n) 0 k
  rw [Nat.zero_add] at h
  rw [Memory.ofBytes, h, imageByte, List.getD_eq_getElem?_getD, List.getD_eq_getElem?_getD, List.getElem?_take_of_lt hk,
    List.getElem?_drop]
  rfl

/-- A slice of at most a memory's size is a memory in canonical form. -/
theorem wf_ofBytes_take (bytes : List Byte) (size : Nat) : (Memory.ofBytes (bytes.take size)).wf size = true :=
  Memory.wfFrom_ofBytesFrom _ 0 (by rw [Nat.zero_add]; exact List.length_take_le ..)

section
variable (bytes : List Byte) (size : PrgSize)

/-- CHR is RAM exactly when the image declares none (rule R132). -/
theorem sliceCartridge_chrIsRam :
    (sliceCartridge bytes size).chrIsRam = true ↔ (imageByte bytes 5).toNat = 0 := by
  rw [sliceCartridge, beq_iff_eq, ← BitVec.toNat_inj]; rfl

theorem sliceCartridge_chrLen : (sliceCartridge bytes size).chrLen =
    if (imageByte bytes 5).toNat = 0 then 8192 else 8192 * (imageByte bytes 5).toNat :=
  if_congr (sliceCartridge_chrIsRam bytes size) rfl rfl

/-- CHR-RAM starts empty; CHR-ROM is the slice behind PRG (rules R130, R132). -/
theorem sliceCartridge_chr : (sliceCartridge bytes size).chr =
    if (imageByte bytes 5).toNat = 0 then [] else
      Memory.ofBytes ((bytes.drop (16 + trainerLength bytes + prgLength bytes)).take (chrLength bytes)) := by
  rw [← List.drop_drop]
  exact if_congr (sliceCartridge_chrIsRam bytes size) rfl rfl

theorem sliceCartridge_mirroring :
    (sliceCartridge bytes size).mirroring = .vertical ↔ (imageByte bytes 6).getLsbD 0 = true := by
  rw [sliceCartridge]
  cases (imageByte bytes 6).getLsbD 0 with
  | false => simp
  | true => simp

theorem sliceCartridge_prg_read {k : Nat} (hk : k < prgLength bytes) :
    (sliceCartridge bytes size).prg.read k = imageByte bytes (16 + trainerLength bytes + k) :=
  read_ofBytes_slice bytes hk

theorem sliceCartridge_chr_read {k : Nat} (hk : k < chrLength bytes) :
    (sliceCartridge bytes size).chr.read k =
      imageByte bytes (16 + trainerLength bytes + prgLength bytes + k) := by
  have rom : (imageByte bytes 5).toNat ≠ 0 := fun none => by
    rw [chrLength, none] at hk; exact Nat.not_lt_zero k hk
  rw [sliceCartridge_chr, if_neg rom, read_ofBytes_slice bytes hk]

/-- The cartridge of a PRG size that fits is well formed. -/
theorem sliceCartridge_wf {size : PrgSize} (h : size.bytes = prgLength bytes) : (sliceCartridge bytes size).wf := by
  have prg : (sliceCartridge bytes size).prg.wf (prgLength bytes) = true := wf_ofBytes_take ..
  refine ⟨h ▸ prg, ?_⟩
  rw [sliceCartridge_chr, sliceCartridge_chrLen, sliceCartridge_chrIsRam]
  by_cases none : (imageByte bytes 5).toNat = 0
  · rw [if_pos none, if_pos none]
    exact ⟨rfl, Nat.le_refl _, fun _ => rfl⟩
  · rw [if_neg none, if_neg none]
    exact ⟨wf_ofBytes_take .., by omega, fun k => absurd k none⟩

end

/-! ## insert_cartridge -/

/-- Before the first step `insert_cartridge` answers as the parser does (rules R343, R373). -/
theorem insertCartridge_ok {bytes : List Byte} {s : State} {c : Cartridge} (hcyc : s.cyc = 0) (hf : s.fault = none)
    (h : parse bytes = .ok c) : insertCartridge bytes s = .done { s with cart := some c } := by
  rw [insertCartridge, if_neg (by simp [hcyc, hf]), h]

theorem insertCartridge_error {bytes : List Byte} {s : State} {e : ParseFault} (hcyc : s.cyc = 0) (hf : s.fault = none)
    (h : parse bytes = .error e) : insertCartridge bytes s = .rejected (.parse e) { s with cart := none } := by
  rw [insertCartridge, if_neg (by simp [hcyc, hf]), h]

/-- An image that is not valid is refused. -/
theorem parse_of_not_valid {bytes : List Byte} (h : ¬ ValidImage bytes) : ∃ e, parse bytes = .error e := by
  cases hp : parse bytes with
  | error e => exact ⟨e, rfl⟩
  | ok c => exact absurd (valid_of_parse hp) h

/-- Settles O60: the parser accepts exactly the valid images, and the cartridge's fields are the image's slices. -/
theorem acceptedImagesAreSliced : Obligations.AcceptedImagesAreSliced := by
  unfold Obligations.AcceptedImagesAreSliced
  intro bytes s hcyc hf byte start np nc
  refine ⟨fun valid => ?_, fun invalid => ?_⟩
  · obtain ⟨size, hs, hp⟩ := parse_of_valid valid
    have length : size.bytes = prgLength bytes := prgSizeOf_bytes hs
    refine ⟨sliceCartridge bytes size, insertCartridge_ok hcyc hf hp, sliceCartridge_wf bytes length, length,
      sliceCartridge_chrIsRam bytes size, sliceCartridge_chrLen bytes size, sliceCartridge_mirroring bytes size,
      fun k => sliceCartridge_prg_read bytes size, fun k => sliceCartridge_chr_read bytes size, fun none => ?_⟩
    rw [sliceCartridge_chr]
    exact if_pos none
  · obtain ⟨e, he⟩ := parse_of_not_valid invalid
    exact ⟨e, insertCartridge_error hcyc hf he⟩

end Sys2Proof.Machine
end

section
/-! SUPPORT. The decoder and the encoder are inverse: the slots of the opcode map, slot by slot, and the lookup by opcode
byte (30_encoding.md rules R150 to R157). -/

namespace Sys2Proof

open Machine

/-! ## The slots of the map -/

/-- The instructions a form makes (rule R151), each with its operand bytes and whether it is well formed: all but those
whose offset is out of range (rule R152). -/
inductive Form.Makes : Form → Instr → List Byte → Bool → Prop
  | implied (i : Instr) : Makes (.implied i) i [] true
  | immediate (f : Byte → Instr) (b : Byte) : Makes (.immediate f) (f b) [b] true
  | unread (f : Byte → Instr) (b : Byte) : Makes (.unread f) (f b) [b] true
  | byte (f : Byte → Instr) (b : Byte) : Makes (.byte f) (f b) [b] true
  | relative (f : Int → Instr) (off : Int) : Makes (.relative f) (f off) [BitVec.ofInt 8 off] (offsetInRange off)
  | word (f : Word → Instr) (w : Word) : Makes (.word f) (f w) [lowByte w, highByte w] true

/-- An instruction stands in the slot's row, with these operand bytes and this well-formedness. -/
structure Slot.Encodes (slot : Slot) (i : Instr) (operands : List Byte) (wf : Bool) : Prop where
  opcode : i.opcode = slot.opcode
  optional : i.optional = slot.optional
  bytes : i.operand.bytes = operands
  wellFormed : i.wellFormed = wf

/-- Every instruction the slot's form makes stands in the slot's row. -/
def Slot.Fits (slot : Slot) : Prop :=
  ∀ i operands wf, slot.form.Makes i operands wf → slot.Encodes i operands wf

theorem opcodeMap_fits : ∀ slot ∈ opcodeMap, slot.Fits := by
  rw [← List.forall_iff_forall_mem]
  unfold opcodeMap
  simp only [List.forall_append]
  repeat' apply And.intro
  all_goals
    intro _ _ _ made
    cases made
    exact ⟨rfl, rfl, rfl, rfl⟩

/-- Every instruction stands in a slot of the map whose form makes it. -/
theorem opcodeMap_makes (i : Instr) :
    ∃ slot ∈ opcodeMap, i.opcode = slot.opcode ∧ i.optional = slot.optional ∧
      slot.form.Makes i i.operand.bytes i.wellFormed := by
  have place : ∃ slot operands wf, opcodeMap[i.ctorIdx]? = some slot ∧ slot.form.Makes i operands wf := by
    cases i <;> exact ⟨_, _, _, rfl, by constructor⟩
  obtain ⟨slot, operands, wf, found, made⟩ := place
  have hs := List.mem_of_getElem? found
  obtain ⟨opcode, optional, rfl, rfl⟩ := opcodeMap_fits slot hs i operands wf made
  exact ⟨slot, hs, opcode, optional, made⟩

set_option maxRecDepth 10000 in
/-- The map is in ascending order of its opcode bytes. -/
theorem opcodeMap_ascending : (opcodeMap.map Slot.opcode).Pairwise (· < ·) :=
  List.isChain_iff_pairwise.mp (by decide)

/-- No two slots of the map have one opcode byte. -/
theorem slot_eq_of_opcode {slot slot' : Slot} (h : slot ∈ opcodeMap) (h' : slot' ∈ opcodeMap)
    (e : slot.opcode = slot'.opcode) : slot = slot' :=
  List.inj_on_of_nodup_map opcodeMap_ascending.nodup h h' e

/-- The lookup finds the slot of the byte, unless its row is absent from the configuration (rules R155 to R157). -/
theorem lookup_eq_ok_iff {extraNops : Bool} {b : Byte} {form : Form} :
    lookup extraNops b = .ok form ↔
      ∃ slot ∈ opcodeMap, slot.opcode = b ∧ (slot.optional = true → extraNops = true) ∧ slot.form = form := by
  have present {optional : Bool} :
      (optional && !extraNops) = true ↔ ¬ (optional = true → extraNops = true) := by
    cases optional <;> cases extraNops <;> decide
  rw [lookup]
  constructor
  · intro h
    split at h
    · cases h
    · next slot hs =>
      split at h <;> cases h
      next ho =>
      exact ⟨slot, List.mem_of_find?_eq_some hs, eq_of_beq (List.find?_some hs :), not_not.mp (mt present.mpr ho), rfl⟩
  · rintro ⟨slot, hs, rfl, ho, rfl⟩
    cases hf : opcodeMap.find? (fun other => other.opcode == slot.opcode) with
    | none => exact absurd (List.find?_eq_none.mp hf slot hs) (by simp)
    | some other =>
      obtain rfl := slot_eq_of_opcode (List.mem_of_find?_eq_some hf) hs (eq_of_beq (List.find?_some hf :))
      exact if_neg fun k => present.mp k ho

/-! ## Operand bytes -/

/-- A byte read as a signed number is in the range of an offset (rule R152). -/
theorem offsetInRange_toInt (b : Byte) : offsetInRange b.toInt = true := by
  have lo := b.le_toInt
  have hi := b.toInt_lt
  simp only [offsetInRange, Bool.and_eq_true, decide_eq_true_iff]
  omega

theorem toInt_ofInt_of_offsetInRange {off : Int} (h : offsetInRange off = true) : (BitVec.ofInt 8 off).toInt = off := by
  simp only [offsetInRange, Bool.and_eq_true, decide_eq_true_iff] at h
  exact toInt_ofInt_offset h.1 h.2

/-- A form makes of bytes a well-formed instruction whose operand bytes stand at their front. -/
theorem Form.take_eq_ok_iff {form : Form} {bytes rest : List Byte} {i : Instr} :
    form.take bytes = .ok (i, rest) ↔ ∃ operands, form.Makes i operands true ∧ bytes = operands ++ rest := by
  constructor
  · intro h
    unfold Form.take at h
    split at h <;> cases h
    case h_1 => exact ⟨_, .implied i, rfl⟩
    case h_2 f b => exact ⟨_, .immediate f b, rfl⟩
    case h_3 f b => exact ⟨_, .unread f b, rfl⟩
    case h_4 f b => exact ⟨_, .byte f b, rfl⟩
    case h_5 f b =>
      have made := Form.Makes.relative f b.toInt
      rw [offsetInRange_toInt, BitVec.ofInt_toInt] at made
      exact ⟨_, made, rfl⟩
    case h_6 f lo hi =>
      have made := Form.Makes.word f (wordOf lo hi)
      rw [lowByte_wordOf, highByte_wordOf] at made
      exact ⟨_, made, rfl⟩
  · rintro ⟨operands, made, rfl⟩
    generalize hw : true = wf at made
    cases made with
    | implied => rfl
    | immediate => rfl
    | unread => rfl
    | byte => rfl
    | relative f off => exact congrArg (fun o => Except.ok (f o, rest)) (toInt_ofInt_of_offsetInRange hw.symm)
    | word f w => exact congrArg (fun a => Except.ok (f a, rest)) (wordOf_bytes w)

/-- The decoder reads exactly the encodings of the well-formed instructions of the configuration. -/
theorem decode_eq_ok_iff {extraNops : Bool} {bytes rest : List Byte} {i : Instr} :
    decode extraNops bytes = .ok (i, rest) ↔
      bytes = encode i ++ rest ∧ i.wellFormed = true ∧ (i.optional = true → extraNops = true) := by
  constructor
  · intro h
    cases bytes with
    | nil => cases h
    | cons b tail =>
      rw [decode] at h
      split at h
      · cases h
      · next form found =>
        obtain ⟨slot, hs, rfl, present, rfl⟩ := lookup_eq_ok_iff.mp found
        obtain ⟨operands, made, rfl⟩ := Form.take_eq_ok_iff.mp h
        obtain ⟨opcode, optional, rfl, hw⟩ := opcodeMap_fits slot hs i operands true made
        exact ⟨by rw [encode, opcode, List.cons_append], hw, optional ▸ present⟩
  · rintro ⟨rfl, hw, present⟩
    obtain ⟨slot, hs, opcode, optional, made⟩ := opcodeMap_makes i
    have found : lookup extraNops i.opcode = .ok slot.form :=
      lookup_eq_ok_iff.mpr ⟨slot, hs, opcode.symm, optional ▸ present, rfl⟩
    rw [encode, List.cons_append, decode, found]
    exact Form.take_eq_ok_iff.mpr ⟨_, hw ▸ made, rfl⟩

/-- Settles O2: the encodings are among the bytes the decoder reads. -/
theorem encodedInstructionDecodesBack : Obligations.EncodedInstructionDecodesBack := by
  unfold Obligations.EncodedInstructionDecodesBack
  exact fun _ _ _ hw present => decode_eq_ok_iff.mpr ⟨rfl, hw, present⟩

/-- Settles O3: the decoder reads nothing but encodings. -/
theorem decodedBytesAreTheEncoding : Obligations.DecodedBytesAreTheEncoding := by
  unfold Obligations.DecodedBytesAreTheEncoding
  exact fun _ _ _ _ => decode_eq_ok_iff.mp

end Sys2Proof
end

section
/-! SUPPORT. The opcode table read by mnemonic and mode (30_encoding.md rule R159). -/

namespace Sys2Proof

open Machine

/-- What the table answers with the optional rows absent it answers in both configurations. -/
theorem reverseLookup_of_false {m : Mnemonic} {mode : Mode} {b : Byte} (h : reverseLookup false m mode = some b)
    (extraNops : Bool) : reverseLookup extraNops m mode = some b := by
  unfold reverseLookup at h ⊢
  split at h
  · exact h
  · cases h

set_option maxRecDepth 10000 in
/-- No two official slots have one mnemonic and mode: each is found by its own. -/
theorem opcodeMap_reverseLookup : opcodeMap.all (fun slot => slot.optional ||
    reverseLookup false (slotRow slot).1 (slotRow slot).2.2.1 == some slot.opcode) = true := by
  decide

/-- The official opcode is found by its mnemonic and mode. -/
theorem reverseLookup_official {i : Instr} (h : i.optional = false) (extraNops : Bool) :
    reverseLookup extraNops i.mnemonic i.operand.mode = some i.opcode := by
  refine reverseLookup_of_false ?_ extraNops
  obtain ⟨slot, place, opcode, row⟩ := opcodeMap_slot i
  obtain ⟨slot', hs, opcode', optional, -⟩ := opcodeMap_makes i
  obtain rfl := slot_eq_of_opcode (List.mem_of_getElem? place) hs (opcode.trans opcode')
  have found := List.all_eq_true.mp opcodeMap_reverseLookup slot hs
  rw [← optional, h, Bool.false_or, beq_iff_eq, row, opcode] at found
  exact found

set_option maxRecDepth 10000 in
/-- Settles O4: an official slot is found by its own mnemonic and mode, so these determine the opcode. -/
theorem reverseLookupFindsTheOfficialOpcode : Obligations.ReverseLookupFindsTheOfficialOpcode := by
  unfold Obligations.ReverseLookupFindsTheOfficialOpcode
  refine ⟨fun extraNops i h => reverseLookup_official h extraNops, fun i j hi hj mnemonic mode => ?_,
    by decide, by decide, by decide, by decide, by decide, by decide, by decide, fun mode h => ?_⟩
  · have found := reverseLookup_official hi false
    rw [mnemonic, mode, reverseLookup_official hj false] at found
    exact (Option.some.inj found).symm
  · cases mode with
    | implied => exact absurd rfl h
    | _ => decide

end Sys2Proof
end

section
/-! SUPPORT. An opcode fetch that finds no instruction stops the step (30_encoding.md rule R156, 60_exceptions.md rules
R341 and R342). -/

namespace Sys2Proof.Machine

/-- A fault of the fetch is the outcome of the step that does no service. -/
theorem step_fetchFault {s t : State} {e : FaultRecord} (running : s.running = true) (idle : arbitrate s = none)
    (h : fetchInstr s = .fault e t) : step s = .fault (e.raise t) := by
  refine (step_running running).2 _ ?_
  rw [cpuStep, idle, execFetched, h]

/-- A read that faults is the fetch's fault. -/
theorem fetchInstr_busFault {s t : State} {e : FaultRecord} (h : memRead s.pc s.pc s = .fault e t) :
    fetchInstr s = .fault e t := by
  rw [fetchInstr, h, Result.bind_fault]

/-- An opcode byte with no row stops the fetch behind its read. -/
theorem fetchInstr_decodeFault {s t : State} {b : Byte} (h : memRead s.pc s.pc s = .ok b t)
    (noRow : (lookup s.params.extraNops b).isOk = false) :
    fetchInstr s = .fault (.decode b s.pc) { t with pc := s.pc + 1 } := by
  rw [fetchInstr, h, Result.bind_ok]
  cases found : lookup s.params.extraNops b with
  | ok form => rw [found] at noRow; cases noRow
  | error e => rw [State.advancePc, (memRead_sameCpu h).pc]; rfl

/-- The lookup finds no byte of a list if it says so byte by byte. -/
theorem lookup_noRow {extraNops : Bool} {bytes : List Byte} {b : Byte} (mem : b ∈ bytes)
    (h : bytes.all (fun b => !(lookup extraNops b).isOk) = true) : (lookup extraNops b).isOk = false :=
  Bool.not_eq_true' _ ▸ List.all_eq_true.mp h b mem

set_option maxRecDepth 10000 in
/-- Settles O6: the listed bytes have no slot, or an optional one that the parameter removes; the unmapped range has no
read. -/
theorem opcodeFetchFaults : Obligations.OpcodeFetchFaults := by
  unfold Obligations.OpcodeFetchFaults
  refine fun s running idle => ⟨fun t b read listed => ?_, fun lo hi => ?_⟩
  · refine step_fetchFault running idle (fetchInstr_decodeFault read ?_)
    rcases listed with undefined | ⟨absent, off⟩
    · cases s.params.extraNops with
      | false => exact lookup_noRow undefined (by decide)
      | true => exact lookup_noRow undefined (by decide)
    · rw [off]
      exact lookup_noRow absent (by decide)
  · exact step_fetchFault running idle (fetchInstr_busFault (memRead_unmapped lo hi))

end Sys2Proof.Machine
end

section
/-! SUPPORT. Words written from the encodings (30_encoding.md rules R151, R152 and R154). -/

namespace Sys2Proof

/-- A word whose bytes begin with the encoding of an instruction decodes to it. -/
theorem decodeTableWord_encode {nbits w : Nat} {i : Instr} (rest : List Byte) (h : tableBytes nbits w = encode i ++ rest)
    (hw : i.wellFormed = true) : decodeTableWord nbits w = some i := by
  rw [decodeTableWord, decode_eq_ok_iff.mpr ⟨h, hw, fun _ => rfl⟩]

/-- Settles O1: the three bytes of each word begin with the instruction's encoding. -/
theorem sampleWordsDecodeAsWritten : Obligations.SampleWordsDecodeAsWritten :=
  ⟨decodeTableWord_encode [0] rfl rfl, decodeTableWord_encode [] rfl rfl, decodeTableWord_encode [0, 0] rfl rfl,
   decodeTableWord_encode [0] rfl rfl, decodeTableWord_encode [] rfl rfl, decodeTableWord_encode [0] rfl rfl,
   decodeTableWord_encode [0, 0] rfl rfl, decodeTableWord_encode [0] rfl rfl, decodeTableWord_encode [] rfl rfl,
   decodeTableWord_encode [0, 0] rfl rfl, decodeTableWord_encode [0] rfl rfl, decodeTableWord_encode [] rfl rfl⟩

end Sys2Proof
end

section
/-! SUPPORT. What an instruction leaves alone beside the registers: the latch and the cycle counter, PC outside control
flow, and every byte of memory outside the storing instructions (40_addressing.md rules R181, R196). -/

namespace Sys2Proof.Machine

/-! ## What a handler's effect keeps -/

/-- The part of the state that an effect on registers and flags does not reach. -/
def State.beside (s : State) : Word × BitVec 64 × Option Interrupt × Memory × Ppu × Option Cartridge :=
  (s.pc, s.cyc, s.irql, s.busSide)

/-- The latch and the cycle counter are as before; so is PC if `pc`, and every byte of memory if `memory`. -/
structure Keeps (pc memory : Prop) (s t : State) : Prop where
  irql : t.irql = s.irql
  cyc : t.cyc = s.cyc
  pc : pc → t.pc = s.pc
  memory : memory → SameMemory s t

theorem SameMemory.of_busSide {s t : State} (h : t.busSide = s.busSide) : SameMemory s t := by
  obtain ⟨ram, ppu, cart⟩ := State.busSide_eq_iff.mp h
  exact ⟨ram, congrArg Ppu.vram ppu, congrArg Ppu.oam ppu, congrArg Ppu.pal ppu, congrArg (Option.map _) cart,
    congrArg (Option.map _) cart⟩

section
variable {pc memory : Prop} {s t u : State}

theorem Keeps.trans (h : Keeps pc memory s t) (k : Keeps pc memory t u) : Keeps pc memory s u where
  irql := k.irql.trans h.irql
  cyc := k.cyc.trans h.cyc
  pc hp := (k.pc hp).trans (h.pc hp)
  memory hm := (h.memory hm).trans (k.memory hm)

theorem Keeps.of_beside (h : t.beside = s.beside) : Keeps pc memory s t := by
  simp only [State.beside, Prod.mk.injEq] at h
  obtain ⟨hpc, cyc, irql, bus⟩ := h
  exact ⟨irql, cyc, fun _ => hpc, fun _ => .of_busSide bus⟩

theorem ReadsOnly.keeps (h : ReadsOnly s t) : Keeps pc memory s t :=
  ⟨h.cpu.irql, h.cpu.cyc, fun _ => h.cpu.pc, fun _ => h.memory⟩

/-- A bus write keeps all of this but memory. -/
theorem memWrite_keeps {pc0 a : Word} {d : Byte} (hm : ¬ memory) (h : memWrite pc0 a d s = .ok () t) :
    Keeps pc memory s t :=
  have cpu := memWrite_sameCpu h
  ⟨cpu.irql, cpu.cyc, fun _ => cpu.pc, fun k => absurd k hm⟩

/-- A jump keeps all of this but PC. -/
theorem Keeps.jump (h : ¬ pc) (target : Word) : Keeps pc memory s { s with pc := target } :=
  ⟨rfl, rfl, fun k => absurd k h, fun _ => .refl s⟩

end

/-- A handler keeps PC if `pc` and memory if `memory`; its effects on registers reach neither. -/
def Handler.Keeps (pc memory : Prop) : Handler → Prop
  | .implied effect => ∀ s, (effect s).beside = s.beside
  | .stack effect => ∀ pc0 s t, effect pc0 s = .ok () t → Machine.Keeps pc memory s t
  | .read effect => ∀ b s, (effect b s).beside = s.beside
  | .store _ => ¬ memory
  | .rmw op => ¬ memory ∧ ∀ b s, (op.before b s).beside = s.beside ∧ (op.after b s).beside = s.beside
  | .branch _ _ => ¬ pc
  | .jump => ¬ pc
  | .call => ∀ addr pc0 s t, jsrEffect addr pc0 s = .ok () t → Machine.Keeps pc memory s t
  | .nop => True

/-- Each mnemonic keeps PC and memory unless it is listed as a writer of it. -/
theorem handlerOf_keeps (m : Mnemonic) : (handlerOf m).Keeps (m ∉ writesPc) (m ∉ writesMemory) := by
  cases m
  case sta | stx | sty | sax => exact (absurd (by decide) ·)
  case inc | dec | asl | lsr | rol | ror | dcp | isc | slo | rla | sre | rra =>
    exact ⟨(absurd (by decide) ·), fun _ _ => ⟨rfl, rfl⟩⟩
  case bcc | bcs | beq | bmi | bne | bpl | bvc | bvs | jmp => exact (absurd (by decide) ·)
  case nop => exact trivial
  case pha | php =>
    intro pc0 s t h
    cases (push_eq ..).symm.trans h
    exact ⟨rfl, rfl, fun _ => rfl, (absurd (by decide) ·)⟩
  case pla =>
    intro pc0 s t h
    rw [plaEffect, pull_eq] at h
    cases h
    exact .of_beside rfl
  case plp =>
    intro pc0 s t h
    rw [plpEffect, pull_eq] at h
    cases h
    exact .of_beside rfl
  case rts =>
    intro pc0 s t h
    rw [rtsEffect, pull16_eq] at h
    cases h
    exact ⟨rfl, rfl, (absurd (by decide) ·), fun _ => .refl s⟩
  case rti =>
    intro pc0 s t h
    rw [rtiEffect, returnFromInterrupt_eq] at h
    cases h
    exact ⟨rfl, rfl, (absurd (by decide) ·), fun _ => .refl s⟩
  case brk =>
    intro pc0 s t h
    obtain ⟨u, pc, k, rfl⟩ := enterInterrupt_ok h
    exact ⟨k.cpu.irql, k.cpu.cyc, (absurd (by decide) ·), (absurd (by decide) ·)⟩
  case jsr =>
    intro addr pc0 s t h
    rw [jsrEffect, push16_eq] at h
    cases h
    exact ⟨rfl, rfl, (absurd (by decide) ·), (absurd (by decide) ·)⟩
  case lda | ldx | ldy | adc | sbc | and | ora | eor | bit | cmp | cpx | cpy | lax => exact fun _ _ => rfl
  all_goals exact fun _ => rfl

/-! ## Instructions -/

/-- What a handler has done keeps what the handler keeps. -/
theorem Handler.Did.keeps {h : Handler} {pc memory : Prop} {i : Instr} {s t : State} (hd : h.Did i s t)
    (hk : h.Keeps pc memory) : Machine.Keeps pc memory s t := by
  cases h with
  | implied effect => exact .of_beside (hd ▸ hk s)
  | stack effect => exact hk _ _ _ hd
  | read effect =>
    obtain ⟨b, u, k, rfl⟩ := hd
    exact k.keeps.trans (.of_beside (hk b u))
  | store value =>
    obtain ⟨m, r, u, -, h1, h2⟩ := hd
    exact (ReadsOnly.of_resolve h1).keeps.trans (memWrite_keeps hk h2)
  | rmw op =>
    obtain ⟨stores, effects⟩ := hk
    rcases hd with ⟨-, rfl⟩ | ⟨m, r, v, b, u, w, -, h1, h2, h3, rfl⟩
    · have acc : { op.before s.a s with a := op.value s.a s }.beside = s.beside := (effects s.a s).1
      exact .of_beside ((effects _ _).2.trans acc)
    · have reads := (ReadsOnly.of_resolve h1).trans (.of_memRead h2)
      have before : Machine.Keeps pc memory u (op.before b u) := .of_beside (effects b u).1
      have stored := before.trans (memWrite_keeps stores h3)
      exact (reads.keeps.trans stored).trans (.of_beside (effects _ w).2)
  | branch mask want => obtain ⟨target, rfl⟩ := hd; exact .jump hk target
  | jump =>
    obtain ⟨u, target, k, rfl⟩ := hd
    exact k.keeps.trans (.jump hk target)
  | call => obtain ⟨addr, -, h1⟩ := hd; exact hk addr _ _ _ h1
  | nop => exact ReadsOnly.keeps hd

/-- What every completed instruction keeps; the charge then adds its cycles. -/
theorem exec_keeps {i : Instr} {s t : State} (h : exec i s = .next t) :
    ∃ t1 extra, Keeps (i.mnemonic ∉ writesPc) (i.mnemonic ∉ writesMemory) s t1 ∧
      t = charge i (operandCrosses i s) extra t1 ∧ (extra ≠ 0 → (handlerOf i.mnemonic).isBranch = true) := by
  obtain ⟨t1, extra, hd, ht, -, he⟩ := exec_next h
  exact ⟨t1, extra, hd.keeps (handlerOf_keeps _), ht, he⟩

/-- A shift of the accumulator stores nothing (rule R183). -/
theorem exec_accumulator_sameMemory {i : Instr} {s t : State} (h : exec i s = .next t) (ho : i.operand = .accumulator) :
    SameMemory s t := by
  obtain ⟨t1, extra, hd, rfl, -, -⟩ := exec_next h
  have rmw : ∀ m ∈ shifts, (handlerOf m).writesOperand = true := by decide
  have writes := rmw _ (mem_shifts_of_accumulator ho)
  have keeps := handlerOf_keepsBusSide i.mnemonic
  cases hh : handlerOf i.mnemonic <;> rw [hh] at hd writes keeps
  case store value =>
    obtain ⟨m, _, _, mem, -⟩ := hd
    cases ho.symm.trans mem
  case rmw op =>
    rcases hd with ⟨-, rfl⟩ | ⟨m, _, _, _, _, _, mem, -⟩
    · exact .of_busSide ((keeps _ _).2.trans (keeps s.a s).1)
    · cases ho.symm.trans mem
  all_goals cases writes

/-- Settles O51: the handlers of the mnemonics that are not listed keep memory or PC, and a shift's accumulator form
writes A alone. -/
theorem onlyStoresChangeMemory : Obligations.OnlyStoresChangeMemory := by
  unfold Obligations.OnlyStoresChangeMemory
  intro i s t h
  have frame := (exec_changesOnly h).frame
  obtain ⟨t1, extra, keeps, rfl, -⟩ := exec_keeps h
  refine ⟨?_, keeps.pc, keeps.irql, frame.fault, frame.params⟩
  rintro (notStore | acc)
  · exact keeps.memory notStore
  · exact exec_accumulator_sameMemory h acc

end Sys2Proof.Machine
end

section
/-! SUPPORT. Effective addresses and their pages (40_addressing.md rules R185 to R193). -/

namespace Sys2Proof.Machine

/-! ## Words as numbers -/

/-- The high byte of an address is its page's number. -/
theorem toNat_page (a : Word) : (a.extractLsb' 8 8).toNat = a.toNat / 256 := by
  have := a.isLt
  rw [BitVec.extractLsb'_toNat, Nat.shiftRight_eq_div_pow]
  omega

/-- A word of two bytes as a number (00_scope.md rule R16). -/
theorem toNat_wordOf (lo hi : Byte) : (wordOf lo hi).toNat = lo.toNat + 256 * hi.toNat := by
  have low : (wordOf lo hi).toNat % 256 = lo.toNat := by
    rw [← congrArg BitVec.toNat (lowByte_wordOf lo hi), lowByte, BitVec.toNat_setWidth]
  have high : (wordOf lo hi).toNat / 256 = hi.toNat := by
    rw [← congrArg BitVec.toNat (highByte_wordOf lo hi), highByte, BitVec.setWidth_ushiftRight_eq_extractLsb, toNat_page]
  omega

/-! ## Pages -/

/-- A page is crossed when the high bytes differ (rule R193). -/
theorem crosses_iff (a b : Word) : crosses a b = true ↔ a.extractLsb' 8 8 ≠ b.extractLsb' 8 8 := by
  have masked (w : Word) : (w &&& 0xFF00).toNat = w.toNat / 256 * 256 := by
    have shifts : w &&& (0xFF00 : Word) = w >>> 8 <<< 8 := (BitVec.shiftLeft_ushiftRight (x := w) (n := 8)).symm
    rw [shifts, BitVec.toNat_shiftLeft, BitVec.toNat_ushiftRight, Nat.shiftLeft_eq, Nat.shiftRight_eq_div_pow]
    omega
  rw [crosses, bne_iff_ne, BitVec.toNat_ne, masked, masked, BitVec.toNat_ne, toNat_page, toNat_page]
  omega

/-- An index sum wraps at 16 bits (rules R187, R191). -/
theorem indexed_ea_toNat (base : Word) (index : Byte) :
    (indexed base index).ea.toNat = (base.toNat + index.toNat) % 65536 := by
  rw [indexed, BitVec.toNat_add, BitVec.toNat_setWidth_of_le (by decide)]

theorem indexed_crossed_iff (base : Word) (index : Byte) :
    (indexed base index).crossed = true ↔ (indexed base index).ea.toNat / 256 ≠ base.toNat / 256 := by
  rw [indexed, crosses_iff, BitVec.toNat_ne, toNat_page, toNat_page, ne_comm]

/-- Settles O29: a data operand's pointers lie in the zero page, which is RAM; the page is the address's high byte. -/
theorem resolverGivesTheEffectiveAddress : Obligations.ResolverGivesTheEffectiveAddress := by
  unfold Obligations.ResolverGivesTheEffectiveAddress
  refine ⟨fun pc0 m s r => resolve_of_dataAddress,
    fun base index => ⟨indexed_ea_toNat base index, indexed_crossed_iff base index⟩, fun s z => ?_⟩
  rw [State.zeroPagePointer, toNat_wordOf, BitVec.toNat_add]
  rfl

end Sys2Proof.Machine
end

section
/-! SUPPORT. The cycles an instruction charges (40_addressing.md rule R194, 44_control.md rule R280). -/

namespace Sys2Proof.Machine

/-- The cycles of an instruction that is no taken branch: one more on a page cross where its row says so. -/
theorem stepCycles_zero (i : Instr) (crossed : Bool) : stepCycles i crossed 0 =
    i.entry.baseCycles + if i.entry.pageCrossAddsCycle = true ∧ crossed = true then 1 else 0 := by
  simp only [stepCycles, Bool.and_eq_true, Nat.add_zero]

/-- Only a relative operand goes to a branch's handler. -/
theorem isBranch_of_mode {i : Instr} (h : i.operand.mode ≠ .relative) : (handlerOf i.mnemonic).isBranch = false := by
  have takes := handler_takes i
  cases hh : handlerOf i.mnemonic <;> rw [hh] at takes
  case branch mask want => exact absurd (eq_of_beq takes) h
  all_goals rfl

/-- An instruction other than a branch charges its base cycles and the page cross its row charges. -/
theorem exec_cyc {i : Instr} {s t : State} (h : exec i s = .next t) (hm : i.operand.mode ≠ .relative) :
    t.cyc = s.cyc + BitVec.ofNat 64 (stepCycles i (operandCrosses i s) 0) := by
  obtain ⟨t1, extra, keeps, rfl, branch⟩ := exec_keeps h
  have noExtra : extra = 0 := not_not.mp fun ne => Bool.false_ne_true ((isBranch_of_mode hm).symm.trans (branch ne))
  rw [charge_cyc, keeps.cyc, noExtra]

/-! ## The rows of the opcode map -/

set_option maxRecDepth 10000 in
/-- The rows that add a cycle on a page cross are those of rule R194's list. -/
theorem pageCrossAddsCycle_iff (i : Instr) :
    i.entry.pageCrossAddsCycle = true ↔ (i.mnemonic, i.operand.mode) ∈ pageCrossForms := by
  obtain ⟨slot, hs, row⟩ := mem_opcodeMap i
  have listed : opcodeMap.all (fun slot => (slotRow slot).2.2.2.2 ==
      decide (((slotRow slot).1, (slotRow slot).2.2.1) ∈ pageCrossForms)) = true := by decide
  have := List.all_eq_true.mp listed slot hs
  rw [row, beq_iff_eq] at this
  rw [show i.entry.pageCrossAddsCycle = _ from this, decide_eq_true_iff]
  rfl

set_option maxRecDepth 10000 in
/-- A branch's row has two base cycles (rule R280). -/
theorem baseCycles_of_relative {i : Instr} {off : Int} (h : i.operand = .relative off) : i.entry.baseCycles = 2 := by
  obtain ⟨slot, hs, row⟩ := mem_opcodeMap i
  have two : opcodeMap.all (fun slot =>
      (slotRow slot).2.2.1 != .relative || (slotRow slot).2.2.2.1 == 2) = true := by decide
  have := List.all_eq_true.mp two slot hs
  rw [row] at this
  simpa [mapRow, h, Operand.mode] using this

/-! ## Branches -/

/-- The handler of a mnemonic of rules R281 to R288 branches on the flag its rule names. -/
theorem handlerOf_branch {m : Mnemonic} {bit : Nat} {want : Bool} (h : (m, bit, want) ∈ branchTests) :
    handlerOf m = .branch ((1 : Byte) <<< bit) want ∧ bit < 8 := by
  simp only [branchTests, List.mem_cons, Prod.mk.injEq, List.not_mem_nil, or_false] at h
  rcases h with ⟨rfl, rfl, rfl⟩ | ⟨rfl, rfl, rfl⟩ | ⟨rfl, rfl, rfl⟩ | ⟨rfl, rfl, rfl⟩ | ⟨rfl, rfl, rfl⟩ |
    ⟨rfl, rfl, rfl⟩ | ⟨rfl, rfl, rfl⟩ | ⟨rfl, rfl, rfl⟩ <;> exact ⟨rfl, by decide⟩

/-- A branch (rule R280): 2 cycles not taken, 3 taken within the page of the next instruction, 4 taken across it. -/
theorem exec_branch {i : Instr} {bit : Nat} {want : Bool} {off : Int} (hm : (i.mnemonic, bit, want) ∈ branchTests)
    (ho : i.operand = .relative off) (s : State) : exec i s =
      if s.p.getLsbD bit = want then
        .next { s with
          pc := s.pc + BitVec.ofInt 16 off
          cyc := s.cyc + if s.pc.extractLsb' 8 8 = (s.pc + BitVec.ofInt 16 off).extractLsb' 8 8 then 3 else 4 }
      else .next { s with cyc := s.cyc + 2 } := by
  obtain ⟨hh, lt⟩ := handlerOf_branch hm
  have cycles (extra : Nat) : stepCycles i false extra = 2 + extra := by
    rw [stepCycles, baseCycles_of_relative ho, Bool.and_false]
    rfl
  rw [exec_eq_perform, perform, hh, ho, Handler.run, runBranch, flag_eq_getLsbD ⟨bit, lt⟩]
  refine if_congr Iff.rfl ?_ ?_
  · rw [charge, cycles]
    by_cases page : s.pc.extractLsb' 8 8 = (s.pc + BitVec.ofInt 16 off).extractLsb' 8 8
    · rw [if_pos page, if_neg ((crosses_iff _ _).not_left.mpr page)]
      rfl
    · rw [if_neg page, if_pos ((crosses_iff _ _).mpr page)]
      rfl
  · rw [charge, cycles]
    rfl

/-- Settles O54: `exec_cyc` for the operands that are no offset, the opcode map's rows for the list, and the branch's
own equation. -/
theorem cyclesAreBasePlusPenalty : Obligations.CyclesAreBasePlusPenalty := by
  unfold Obligations.CyclesAreBasePlusPenalty
  refine ⟨fun i s t h hm => stepCycles_zero i _ ▸ exec_cyc h hm, pageCrossAddsCycle_iff,
    fun i s t bit want off h hm ho => ?_, fun i crossed s => stepCycles_zero i crossed ▸ rfl⟩
  rw [exec_branch hm ho] at h
  by_cases taken : s.p.getLsbD bit = want
  · rw [if_pos taken] at h
    cases h
    exact congrArg (s.cyc + ·) (if_neg (not_not.mpr taken)).symm
  · rw [if_neg taken] at h
    cases h
    exact congrArg (s.cyc + ·) (if_pos taken).symm

end Sys2Proof.Machine
end

section
/-! SUPPORT. The fetch of an instruction that stands in RAM or PRG, which has no side effect (40_addressing.md rule R180,
20_memory.md rule R88). -/

namespace Sys2Proof.Machine

section
variable {s : State} {a : Word} {b : Byte}

/-- A byte found in RAM or PRG is what a bus read returns, and the read changes nothing. -/
theorem memRead_of_peek (pc0 : Word) (h : s.peek a = some b) : memRead pc0 a s = .ok b s := by
  unfold State.peek at h
  split at h
  · next ram =>
    cases h
    exact memRead_ram ram
  split at h
  · cases h
  · next _ high =>
    obtain ⟨c, hc, rfl⟩ := Option.map_eq_some_iff.mp h
    exact memRead_prg (Nat.le_of_not_lt high) hc

/-- It is also what the skipped operand of an immediate NOP is taken to be. -/
theorem skippedByte_of_peek (h : s.peek a = some b) : skippedByte a s = b := by
  unfold State.peek at h
  unfold skippedByte
  split at h
  · next ram =>
    rw [if_pos ram]
    exact Option.some.inj h
  · next notRam =>
    split at h
    · cases h
    · next high =>
      obtain ⟨c, hc, rfl⟩ := Option.map_eq_some_iff.mp h
      rw [if_neg notRam, if_neg high, hc]
      rfl

theorem holds_cons {bytes : List Byte} (h : s.holds a (b :: bytes) = true) :
    s.peek a = some b ∧ s.holds (a + 1) bytes = true := by
  rwa [State.holds, Bool.and_eq_true, decide_eq_true_iff] at h

/-- PC takes no part in what an address holds. -/
theorem holds_advancePc (n : Nat) (bytes : List Byte) : (s.advancePc n).holds a bytes = s.holds a bytes := by
  induction bytes generalizing a with
  | nil => rfl
  | cons b rest ih => exact congrArg (decide (s.peek a = some b) && ·) ih

end

theorem advancePc_advancePc (m n : Nat) (s : State) : (s.advancePc m).advancePc n = s.advancePc (m + n) := by
  simp only [State.advancePc, BitVec.add_assoc, BitVec.ofNat_add]

/-- The operand bytes a form takes, where they stand at PC, are fetched as they are decoded (rules R181 to R192). -/
theorem fetchOperand_of_holds {form : Form} {i : Instr} {operands : List Byte} {s : State} (pc0 : Word)
    (made : form.Makes i operands true) (h : s.holds s.pc operands = true) :
    fetchOperand pc0 form s = .ok i (s.advancePc operands.length) := by
  generalize hw : true = wf at made
  cases made with
  | implied => rw [List.length_nil, State.advancePc, BitVec.add_zero]; rfl
  | immediate f b =>
    obtain ⟨found, -⟩ := holds_cons h
    have read : memRead pc0 s.pc (s.advancePc 1) = .ok b (s.advancePc 1) := memRead_of_peek pc0 found
    rw [fetchOperand, read]
    rfl
  | unread f b =>
    obtain ⟨found, -⟩ := holds_cons h
    rw [fetchOperand, skippedByte_of_peek found]
    rfl
  | byte f b =>
    obtain ⟨found, -⟩ := holds_cons h
    rw [fetchOperand, memRead_of_peek pc0 found]
    rfl
  | relative f off =>
    obtain ⟨found, -⟩ := holds_cons h
    rw [fetchOperand, memRead_of_peek pc0 found, Result.bind_ok, toInt_ofInt_of_offsetInRange hw.symm]
    rfl
  | word f w =>
    obtain ⟨low, rest⟩ := holds_cons h
    obtain ⟨high, -⟩ := holds_cons rest
    have read : read16 pc0 s.pc s = .ok w s := by
      rw [read16, memRead_of_peek pc0 low, Result.bind_ok, memRead_of_peek pc0 high, Result.bind_ok, wordOf_bytes]
    rw [fetchOperand, read]
    rfl

/-- Bytes at PC in RAM or PRG that decode to an instruction are fetched as that instruction. -/
theorem fetchInstr_of_holds {s : State} {bytes : List Byte} {i : Instr} (h : s.holds s.pc bytes = true)
    (decoded : decode s.params.extraNops bytes = .ok (i, [])) :
    fetchInstr s = .ok i (s.advancePc bytes.length) := by
  obtain ⟨rfl, hw, present⟩ := decode_eq_ok_iff.mp decoded
  rw [List.append_nil, encode] at h ⊢
  obtain ⟨slot, hs, opcode, optional, made⟩ := opcodeMap_makes i
  have found : lookup s.params.extraNops i.opcode = .ok slot.form :=
    lookup_eq_ok_iff.mpr ⟨slot, hs, opcode.symm, optional ▸ present, rfl⟩
  obtain ⟨first, rest⟩ := holds_cons h
  have operands := fetchOperand_of_holds s.pc (hw ▸ made) ((holds_advancePc 1 _).trans rest)
  rw [fetchInstr, memRead_of_peek s.pc first, Result.bind_ok, found]
  refine operands.trans ?_
  rw [advancePc_advancePc, List.length_cons, Nat.add_comm]

/-- An encoding is as long as its instruction's size (30_encoding.md rule R151). -/
theorem encode_length (i : Instr) : (encode i).length = i.size := by
  rw [encode, List.length_cons, Instr.size]
  change i.operand.bytes.length + 1 = i.operand.mode.size
  cases i.operand with
  | mem m => cases m <;> rfl
  | implied | accumulator | immediate | relative => rfl

/-- Settles O5: the bytes are fetched without a side effect, and the instruction's outcome is the CPU's part of the
step. -/
theorem stepRunsTheDecodedInstruction : Obligations.StepRunsTheDecodedInstruction := by
  unfold Obligations.StepRunsTheDecodedInstruction
  intro s bytes i running idle held decoded
  have size : bytes.length = i.size := by
    obtain ⟨rfl, -, -⟩ := decode_eq_ok_iff.mp decoded
    rw [List.append_nil, encode_length]
  have cpu : cpuStep s = exec i { s with pc := s.pc + BitVec.ofNat 16 i.size } := by
    rw [cpuStep, idle, execFetched, fetchInstr_of_holds held decoded, size, State.advancePc]
  obtain ⟨completes, faults⟩ := step_running running
  rcases exec_outcome i { s with pc := s.pc + BitVec.ofNat 16 i.size } with ⟨t, next⟩ | ⟨kind, ea, left, fault, -⟩
  · rw [next]
    exact completes t (cpu.trans next)
  · rw [fault]
    exact faults _ (cpu.trans fault)

end Sys2Proof.Machine
end

section
/-! SUPPORT. Loads, stores and transfers (41_load_store.md rules R220 to R231, 46_undocumented.md rules R321, R322): what
an instruction of each shape answers, once for all its mnemonics. -/

namespace Sys2Proof.Machine

/-! ## The shapes of instruction with their operand resolved -/

section
variable {i : Instr} {s : State}

/-- A sequence that stops at a bus fault of `i` answers that fault (60_exceptions.md rules R340, R342). -/
theorem toOutcome_bind_busFault {α : Type} (kind : Access) (a : Word) (left : State) (k : α → State → Result Unit) :
    ((Result.fault (.bus kind a (startPc i s)) left).bind k).toOutcome = accessFault i kind a s left := rfl

theorem exec_implied {effect : State → State} (hh : handlerOf i.mnemonic = .implied effect) :
    exec i s = .next (charge i false 0 (effect s)) := by
  have takes := handler_takes i
  rw [hh] at takes
  rw [exec_eq_perform, perform, hh]
  cases ho : i.operand with
  | implied => rfl
  | mem m => exact absurd (eq_of_beq takes) (mode_ne_implied ho)
  | accumulator | immediate | relative => rw [ho] at takes; cases takes

theorem exec_read_immediate {effect : Byte → State → State} {b : Byte} (hh : handlerOf i.mnemonic = .read effect)
    (ho : i.operand = .immediate b) : exec i s = .next (charge i false 0 (effect b s)) := by
  rw [exec_eq_perform, perform, hh, ho]
  rfl

/-- The only bus access of a reading instruction outside RAM is the read of its operand. -/
theorem exec_read {effect : Byte → State → State} {r : Resolved} (hh : handlerOf i.mnemonic = .read effect)
    (ha : operandAddress i s = some r) :
    exec i s = ((memRead (startPc i s) r.ea s).bind fun b t =>
      .ok () (charge i r.crossed 0 (effect b t))).toOutcome := by
  obtain ⟨m, ho, hd⟩ := operandAddress_eq_some ha
  rw [exec_eq_perform, perform, hh, ho, Handler.run, runRead, readSource, resolve_of_dataAddress hd, Result.bind_ok]
  cases memRead (startPc i s) r.ea s <;> rfl

/-- The only bus access of a storing instruction outside RAM is the write of its value. -/
theorem exec_store {value : State → Byte} {r : Resolved} (hh : handlerOf i.mnemonic = .store value)
    (ha : operandAddress i s = some r) :
    exec i s = ((memWrite (startPc i s) r.ea (value s) s).bind fun _ t =>
      .ok () (charge i r.crossed 0 t)).toOutcome := by
  obtain ⟨m, ho, hd⟩ := operandAddress_eq_some ha
  rw [exec_eq_perform, perform, hh, ho, Handler.run, runStore, resolve_of_dataAddress hd, Result.bind_ok]

end

/-! ## The shapes' statements from the handler table and the opcode map -/

section
variable {m : Mnemonic} {rows : List MapRow} (hr : HasRows m rows)
include hr

theorem registerInstr_of_handler {effect : State → State} (hh : handlerOf m = .implied effect) :
    RegisterInstr m rows effect := by
  refine ⟨hr, fun i s hm => ?_⟩
  subst hm
  exact exec_implied hh

theorem readInstr_of_handler {effect : Byte → State → State} (hh : handlerOf m = .read effect) :
    ReadInstr m rows effect := by
  refine ⟨hr, fun i s hm => ?_⟩
  subst hm
  refine ⟨?_, fun r ha lo hi => ?_, fun r e left ha fault => ?_⟩
  · rintro b crossed s1 (⟨ho, rfl, rfl⟩ | ⟨r, ha, rfl, read⟩)
    · exact exec_read_immediate hh ho
    · rw [exec_read hh ha, read, Result.bind_ok, Result.toOutcome_ok]
  · rw [exec_read hh ha, memRead_unmapped lo hi, toOutcome_bind_busFault]
  · obtain ⟨a, rfl⟩ := memRead_faultKind fault
    exact ⟨a, rfl, by rw [exec_read hh ha, fault, toOutcome_bind_busFault]⟩

theorem storeInstr_of_handler {value : State → Byte} (hh : handlerOf m = .store value) : StoreInstr m rows value := by
  refine ⟨hr, fun i s r hm ha => ?_⟩
  subst hm
  rw [exec_store hh ha]
  refine ⟨fun s1 written => ?_, fun lo => ?_, fun e left fault => ?_⟩
  · rw [written, Result.bind_ok, Result.toOutcome_ok]
  · rw [memWrite_unmapped lo, toOutcome_bind_busFault]
  · obtain ⟨a, rfl⟩ := memWrite_faultKind fault
    exact ⟨a, rfl, by rw [fault, toOutcome_bind_busFault]⟩

end

/-! ## The obligations -/

set_option maxRecDepth 10000 in
/-- Settles O30: each mnemonic's handler reads, with the effect of its rule. -/
theorem loadsWriteTheByteRead : Obligations.LoadsWriteTheByteRead := by
  unfold Obligations.LoadsWriteTheByteRead
  exact ⟨readInstr_of_handler (hasRows_of rfl) rfl, readInstr_of_handler (hasRows_of rfl) rfl,
    readInstr_of_handler (hasRows_of rfl) rfl, readInstr_of_handler (hasRows_of rfl) rfl⟩

set_option maxRecDepth 10000 in
/-- Settles O31: each mnemonic's handler stores, with the value of its rule. -/
theorem storesWriteTheRegister : Obligations.StoresWriteTheRegister := by
  unfold Obligations.StoresWriteTheRegister
  exact ⟨storeInstr_of_handler (hasRows_of rfl) rfl, storeInstr_of_handler (hasRows_of rfl) rfl,
    storeInstr_of_handler (hasRows_of rfl) rfl, storeInstr_of_handler (hasRows_of rfl) rfl⟩

set_option maxRecDepth 10000 in
/-- Settles O32: each mnemonic's handler works on registers alone, with the effect of its rule. -/
theorem transfersCopyARegister : Obligations.TransfersCopyARegister := by
  unfold Obligations.TransfersCopyARegister
  exact ⟨registerInstr_of_handler (hasRows_of rfl) rfl, registerInstr_of_handler (hasRows_of rfl) rfl,
    registerInstr_of_handler (hasRows_of rfl) rfl, registerInstr_of_handler (hasRows_of rfl) rfl,
    registerInstr_of_handler (hasRows_of rfl) rfl, registerInstr_of_handler (hasRows_of rfl) rfl⟩

end Sys2Proof.Machine
end

section
/-! SUPPORT. Arithmetic and logic (42_arith_logic.md rules R240 to R257): the shared adder and comparison as arithmetic,
and what a read-modify-write instruction answers. -/

namespace Sys2Proof.Machine

/-! ## The adder (rule R240) -/

theorem adderSum_eq (a m p : Byte) : adderSum a m p = a.toNat + m.toNat + if p.getLsbD 0 then 1 else 0 :=
  congrArg (fun c : Bool => a.toNat + m.toNat + if c then 1 else 0) (flag_eq_getLsbD 0 p)

/-- The 9-bit sum is truncated to the byte. -/
theorem ofNat_mod_byte (n : Nat) : BitVec.ofNat 8 (n % 256) = BitVec.ofNat 8 n :=
  BitVec.eq_of_toNat_eq (Nat.mod_mod n 256)

/-- The sign-mismatch test: the operands have one sign and the result the other. -/
theorem adderOverflow_eq (a m r : Byte) : adderOverflow a m r = (a.msb == m.msb && a.msb != r.msb) := by
  have signs : ∀ x y z : Bool, (!(x ^^ y) && (x ^^ z)) = (x == y && x != z) := by decide
  calc adderOverflow a m r
    _ = (~~~(a ^^^ m) &&& (a ^^^ r)).msb := (flag_eq_getLsbD 7 _).trans (BitVec.msb_eq_getLsbD_last _).symm
    _ = (!(a.msb ^^ m.msb) && (a.msb ^^ r.msb)) := by simp
    _ = (a.msb == m.msb && a.msb != r.msb) := signs ..

/-- Two operands of one sign have a sum of the other sign exactly when the signed sum leaves the range of a byte. -/
theorem adderOverflow_sum (a m : Byte) {c : Nat} (hc : c ≤ 1) :
    adderOverflow a m (BitVec.ofNat 8 (a.toNat + m.toNat + c)) =
      decide (a.toInt + m.toInt + c < -128 ∨ 127 < a.toInt + m.toInt + c) := by
  have := a.isLt
  have := m.isLt
  rw [adderOverflow_eq, Bool.eq_iff_iff]
  simp only [BitVec.msb_eq_decide, BitVec.toInt_eq_toNat_cond, BitVec.toNat_ofNat, Bool.and_eq_true, beq_iff_eq,
    bne_iff_ne, decide_eq_decide, decide_eq_true_iff, ne_eq]
  omega

/-- V after AddCore is the overflow test: the updates of C, N and Z leave bit 6. -/
theorem addCore_overflow (m : Byte) (s : State) :
    (s.addCore m).p.getLsbD 6 = adderOverflow s.a m (BitVec.ofNat 8 (adderSum s.a m s.p)) :=
  (getLsbD_setNZ _ _ (by decide)).trans (getLsbD_setFlag _ _ 6 (by decide))

theorem toNat_complement (m : Byte) : (m ^^^ 0xFF).toNat = 255 - m.toNat := by
  rw [show m ^^^ 0xFF = ~~~m from BitVec.xor_allOnes, BitVec.toNat_not]

/-- `A + ~m + C` carries exactly when `A` is not below m and the borrow (rule R242). -/
theorem adderSum_complement_carries (a m p : Byte) :
    adderSum a (m ^^^ 0xFF) p > 0xFF ↔ m.toNat + (if p.getLsbD 0 then 0 else 1) ≤ a.toNat := by
  have := m.isLt
  rw [adderSum_eq, toNat_complement]
  split <;> omega

/-- `A + ~m + C` is `A - m` less the borrow, modulo 256 (rule R242). -/
theorem ofNat_adderSum_complement (a m p : Byte) :
    BitVec.ofNat 8 (adderSum a (m ^^^ 0xFF) p) = a - m - BitVec.ofNat 8 (if p.getLsbD 0 then 0 else 1) := by
  have := m.isLt
  apply BitVec.eq_of_toNat_eq
  rw [adderSum_eq, BitVec.toNat_ofNat, toNat_complement, BitVec.toNat_sub, BitVec.toNat_sub, BitVec.toNat_ofNat]
  split <;> omega

/-! ## Comparison (rule R247) -/

/-- Compare sets C of the unsigned order and N and Z of the difference, which is 0 exactly when the operands are equal. -/
theorem compare_eq (r m : Byte) (s : State) : s.compare r m =
    { s with p := setNZ (r - m) (setFlag maskC (decide (m.toNat ≤ r.toNat)) s.p) } := by
  have zero : (r == m) = (r - m == 0) := Bool.eq_iff_iff.mpr (by rw [beq_iff_eq, beq_iff_eq, sub_eq_zero])
  rw [State.compare, zero]
  rfl

/-! ## Read-modify-write instructions -/

section
variable {i : Instr} {s : State} {op : RmwOp}

theorem exec_rmw_accumulator (hh : handlerOf i.mnemonic = .rmw op) (ho : i.operand = .accumulator) :
    exec i s = .next (charge i false 0 (op.after (op.value s.a s) { op.before s.a s with a := op.value s.a s })) := by
  rw [exec_eq_perform, perform, hh, ho]
  rfl

/-- The only bus accesses of a read-modify-write instruction outside RAM are the read of its operand and the write
behind it. -/
theorem exec_rmw {r : Resolved} (hh : handlerOf i.mnemonic = .rmw op) (ha : operandAddress i s = some r) :
    exec i s = ((memRead (startPc i s) r.ea s).bind fun b s1 =>
      (memWrite (startPc i s) r.ea (op.value b s1) (op.before b s1)).bind fun _ s2 =>
        .ok () (charge i r.crossed 0 (op.after (op.value b s1) s2))).toOutcome := by
  obtain ⟨m, ho, hd⟩ := operandAddress_eq_some ha
  rw [exec_eq_perform, perform, hh, ho, Handler.run, runRmw, resolve_of_dataAddress hd, Result.bind_ok]

end

theorem rmwInstr_of_handler {m : Mnemonic} {rows : List MapRow} {value : Byte → State → Byte}
    {before after : Byte → State → State} (hr : HasRows m rows) (hh : handlerOf m = .rmw ⟨value, before, after⟩) :
    RmwInstr m rows value before after := by
  refine ⟨hr, fun i s hm => ?_⟩
  subst hm
  refine ⟨exec_rmw_accumulator hh, fun r b s1 s2 ha read written => ?_, fun r ha lo hi => ?_,
    fun r b s1 ha lo read => ?_, fun r e left ha fault => ?_, fun r b s1 e left ha read fault => ?_⟩
  · rw [exec_rmw hh ha, read, Result.bind_ok, written, Result.bind_ok, Result.toOutcome_ok]
  · rw [exec_rmw hh ha, memRead_unmapped lo hi, toOutcome_bind_busFault]
  · rw [exec_rmw hh ha, read, Result.bind_ok, memWrite_unmapped (by omega), toOutcome_bind_busFault]
  · obtain ⟨a, rfl⟩ := memRead_faultKind fault
    exact ⟨a, rfl, by rw [exec_rmw hh ha, fault, toOutcome_bind_busFault]⟩
  · obtain ⟨a, rfl⟩ := memWrite_faultKind fault
    exact ⟨a, rfl, by rw [exec_rmw hh ha, read, Result.bind_ok, fault, toOutcome_bind_busFault]⟩

/-! ## The obligations -/

/-- Settles O28: V is the overflow test, and the carry is 0 or 1. -/
theorem overflowIsSignedOverflow : Obligations.OverflowIsSignedOverflow := by
  unfold Obligations.OverflowIsSignedOverflow
  intro m s
  rw [addCore_overflow, adderSum_eq, adderOverflow_sum s.a m (by split <;> decide)]
  split <;> rfl

set_option maxRecDepth 10000 in
/-- Settles O33: ADC is AddCore, whose 9-bit sum is truncated to a byte. -/
theorem adcAddsWithCarry : Obligations.AdcAddsWithCarry := by
  unfold Obligations.AdcAddsWithCarry
  refine readInstr_of_handler (hasRows_of rfl) (congrArg Handler.read (funext₂ fun m s => ?_))
  rw [adcEffect, State.addCore, ← ofNat_mod_byte, adderSum_eq]
  rfl

set_option maxRecDepth 10000 in
/-- Settles O34: SBC is AddCore on the complement, whose sum is the difference and carries when there is no borrow. -/
theorem sbcSubtractsWithBorrow : Obligations.SbcSubtractsWithBorrow := by
  unfold Obligations.SbcSubtractsWithBorrow
  refine readInstr_of_handler (hasRows_of rfl) (congrArg Handler.read (funext₂ fun m s => ?_))
  rw [sbcEffect, State.addCore, ofNat_adderSum_complement, decide_eq_decide.mpr (adderSum_complement_carries s.a m s.p)]
  rfl

set_option maxRecDepth 10000 in
/-- Settles O35: each mnemonic's handler reads, with the effect of its rule. -/
theorem logicCombinesAAndBitTests : Obligations.LogicCombinesAAndBitTests := by
  unfold Obligations.LogicCombinesAAndBitTests
  exact ⟨readInstr_of_handler (hasRows_of rfl) rfl, readInstr_of_handler (hasRows_of rfl) rfl,
    readInstr_of_handler (hasRows_of rfl) rfl, readInstr_of_handler (hasRows_of rfl) rfl⟩

set_option maxRecDepth 10000 in
/-- Settles O36: each mnemonic's handler compares its register with the operand. -/
theorem comparesSetCZN : Obligations.ComparesSetCZN := by
  unfold Obligations.ComparesSetCZN
  have effect (register : State → Byte) := funext₂ fun m s => compare_eq (register s) m s
  exact ⟨readInstr_of_handler (hasRows_of rfl) (congrArg Handler.read (effect State.a)),
    readInstr_of_handler (hasRows_of rfl) (congrArg Handler.read (effect State.x)),
    readInstr_of_handler (hasRows_of rfl) (congrArg Handler.read (effect State.y))⟩

set_option maxRecDepth 10000 in
/-- Settles O37: each mnemonic's handler reads, writes and then sets N and Z. -/
theorem incAndDecModifyMemory : Obligations.IncAndDecModifyMemory := by
  unfold Obligations.IncAndDecModifyMemory
  exact ⟨rmwInstr_of_handler (hasRows_of rfl) rfl, rmwInstr_of_handler (hasRows_of rfl) rfl⟩

set_option maxRecDepth 10000 in
/-- Settles O38: each mnemonic's handler works on its register alone, with the effect of its rule. -/
theorem indexRegistersStepByOne : Obligations.IndexRegistersStepByOne := by
  unfold Obligations.IndexRegistersStepByOne
  exact ⟨registerInstr_of_handler (hasRows_of rfl) rfl, registerInstr_of_handler (hasRows_of rfl) rfl,
    registerInstr_of_handler (hasRows_of rfl) rfl, registerInstr_of_handler (hasRows_of rfl) rfl⟩

end Sys2Proof.Machine
end

section
/-! SUPPORT. Shifts and rotates (43_shift_rotate.md rules R270 to R274): the carry a rotate shifts in, as a bit of P. -/

namespace Sys2Proof.Machine

/-! ## The rotates -/

theorem carryIn_eq (p : Byte) : carryIn p = if p.getLsbD 0 then 1 else 0 :=
  congrArg (fun c : Bool => if c then 1 else 0) (flag_eq_getLsbD 0 p)

/-- ROL shifts the old C into bit 0 (rule R273). -/
theorem shiftRol_eq (m p : Byte) :
    shiftRol m p = ⟨m <<< 1 ||| (if p.getLsbD 0 then 0x01 else 0), m.getLsbD 7⟩ := by
  rw [shiftRol, carryIn_eq]
  cases p.getLsbD 0 <;> rfl

/-- ROR shifts the old C into bit 7 (rule R274). -/
theorem shiftRor_eq (m p : Byte) :
    shiftRor m p = ⟨m >>> 1 ||| (if p.getLsbD 0 then 0x80 else 0), m.getLsbD 0⟩ := by
  rw [shiftRor, carryIn_eq]
  cases p.getLsbD 0 <;> rfl

/-! ## The obligation -/

set_option maxRecDepth 10000 in
/-- Settles O39: each mnemonic's handler is its shift, and a rotate's carry in is bit 0 of the old P. -/
theorem shiftsMoveThroughCarry : Obligations.ShiftsMoveThroughCarry := by
  unfold Obligations.ShiftsMoveThroughCarry
  exact ⟨rmwInstr_of_handler (hasRows_of rfl) rfl, rmwInstr_of_handler (hasRows_of rfl) rfl,
    rmwInstr_of_handler (hasRows_of rfl) (congrArg (Handler.rmw ∘ shiftOp) (funext₂ shiftRol_eq)),
    rmwInstr_of_handler (hasRows_of rfl) (congrArg (Handler.rmw ∘ shiftOp) (funext₂ shiftRor_eq))⟩

end Sys2Proof.Machine
end

section
/-! SUPPORT. Control flow (44_control.md rules R280 to R294): words as pairs of bytes, the interrupt vector, the stack
behind a push, and what each jump, call and return answers. -/

namespace Sys2Proof.Machine

/-! ## Operands by their mode -/

theorem operand_eq_implied_of_mode {o : Operand} (h : o.mode = .implied) : o = .implied := by
  cases o with
  | implied => rfl
  | accumulator | immediate | relative => cases h
  | mem m => cases m <;> cases h

theorem operand_eq_immediate_of_mode {o : Operand} (h : o.mode = .immediate) : ∃ b, o = .immediate b := by
  cases o with
  | immediate b => exact ⟨b, rfl⟩
  | implied | accumulator | relative => cases h
  | mem m => cases m <;> cases h

/-! ## Words and their bytes (00_scope.md rule R16) -/

theorem lowByte_eq (w : Word) : lowByte w = w.extractLsb' 0 8 := BitVec.setWidth_eq_extractLsb' (by decide)

theorem highByte_eq (w : Word) : highByte w = w.extractLsb' 8 8 := BitVec.setWidth_ushiftRight_eq_extractLsb

theorem wordOf_eq_append (lo hi : Byte) : wordOf lo hi = hi ++ lo := by
  rw [BitVec.append_def, BitVec.shiftLeftZeroExtend_eq, BitVec.setWidth'_eq]
  rfl

theorem extractLsb'_append_bytes (w : Word) : w.extractLsb' 8 8 ++ w.extractLsb' 0 8 = w := by
  rw [← highByte_eq, ← lowByte_eq, ← wordOf_eq_append, wordOf_bytes]

/-- The next address of a pointer's own page: its low byte alone is counted up (40_addressing.md rule R189). -/
theorem pageWrapNext_eq (ptr : Word) :
    pageWrapNext ptr = ptr.extractLsb' 8 8 ++ (ptr.extractLsb' 0 8 + 1) := by
  have high : (pageWrapNext ptr).extractLsb' 8 8 = ptr.extractLsb' 8 8 :=
    extractLsb'_merge_kept ptr (by decide) (by
      rw [BitVec.extractLsb'_and, show (0x00FF : Word).extractLsb' 8 8 = 0 by decide]; exact BitVec.and_zero)
  have low : (pageWrapNext ptr).extractLsb' 0 8 = ptr.extractLsb' 0 8 + 1 :=
    extractLsb'_merge_new ptr (by decide) (by
      rw [BitVec.extractLsb'_and, show (0x00FF : Word).extractLsb' 0 8 = BitVec.allOnes 8 by decide,
        BitVec.and_allOnes, ← lowByte_eq, ← lowByte_eq]
      exact BitVec.setWidth_add ptr 1 (by decide))
  rw [← high, ← low, extractLsb'_append_bytes]

/-! ## The vectors (20_memory.md rule R89) -/

theorem peek_prg {a : Word} (s : State) (h : 0x8000 ≤ a.toNat) :
    s.peek a = s.cart.map fun c => c.prg.read (prgIndex c.prgSize a) := by
  rw [State.peek, if_neg (by omega), if_neg (by omega)]
  rfl

/-- A vector in PRG is two bytes of the cartridge, where there is one. -/
theorem vector_prg {a : Word} (s : State) (h : 0x8000 ≤ a.toNat) (h' : a.toNat < 0xFFFF) :
    s.vector a = s.cart.map fun c =>
      wordOf (c.prg.read (prgIndex c.prgSize a)) (c.prg.read (prgIndex c.prgSize (a + 1))) := by
  have next : 0x8000 ≤ (a + 1).toNat := by rw [BitVec.toNat_add]; change _ ≤ (a.toNat + 1) % 65536; omega
  rw [State.vector, peek_prg s h, peek_prg s next]
  cases s.cart <;> rfl

/-- Taking an interrupt through a vector found in PRG (60_exceptions.md rule R352). -/
theorem enterInterrupt_of_vector {s : State} {vector w : Word} (pc0 ret : Word) (b : Byte)
    (lo : 0x8000 ≤ vector.toNat) (hi : vector.toNat < 0xFFFF) (h : s.vector vector = some w) :
    enterInterrupt pc0 ret b vector s =
      .ok () { ((s.pushed (ret.extractLsb' 8 8)).pushed (ret.extractLsb' 0 8)).pushed b with
        p := setFlag maskI true s.p, pc := w } := by
  obtain ⟨c, hc, rfl⟩ := Option.map_eq_some_iff.mp ((vector_prg s lo hi).symm.trans h)
  rw [enterInterrupt_eq hc lo hi, highByte_eq, lowByte_eq]
  rfl

/-! ## The stack behind a push (10_state.md rule R33) -/

/-- A push moves every byte on the stack one slot further away, as far as the page does not wrap onto it. -/
theorem stackByte_succ_pushed {s : State} (h : s.ram.wf 0x800 = true) (d : Byte) {n : Nat} (pos : 0 < n)
    (lt : n < 256) : (s.pushed d).stackByte (n + 1) = s.stackByte n := by
  have slot : (s.pushed d).sp + BitVec.ofNat 8 (n + 1) = s.sp + BitVec.ofNat 8 n := by
    rw [State.pushed, BitVec.ofNat_add, BitVec.add_comm (BitVec.ofNat 8 n), ← BitVec.add_assoc]
    exact congrArg (· + BitVec.ofNat 8 n) (BitVec.sub_add_cancel s.sp 1)
  have other : 0x100 + (s.sp + BitVec.ofNat 8 n).toNat ≠ 0x100 + s.sp.toNat := by
    rw [BitVec.toNat_add, BitVec.toNat_ofNat]
    omega
  rw [State.stackByte, slot, State.pushed, Memory.read_write_of_wf h, if_neg other, State.stackByte]

/-- A word pushed high byte first is pulled low byte first. -/
theorem pushed_word_pulled {s : State} (h : s.ram.wf 0x800 = true) (w : Word) :
    ((s.pushed (w.extractLsb' 8 8)).pushed (w.extractLsb' 0 8)).stackByte 2 ++
      ((s.pushed (w.extractLsb' 8 8)).pushed (w.extractLsb' 0 8)).stackByte 1 = w := by
  have first := pushed_ramWf h (w.extractLsb' 8 8)
  rw [stackByte_succ_pushed first _ Nat.one_pos (by decide), stackByte_pushed h, stackByte_pushed first,
    extractLsb'_append_bytes]

/-! ## Branches -/

/-- A mnemonic of the branch table is a branch on the flag the table names. -/
theorem branchInstr_of_test {m : Mnemonic} {opcode : Byte} {bit : Nat} {want : Bool}
    (hr : HasRows m [(opcode, .relative, 2, false)]) (test : (m, bit, want) ∈ branchTests) :
    BranchInstr m opcode bit want := by
  refine ⟨hr, fun i s off hm ho => ?_⟩
  subst hm
  exact exec_branch test ho s

set_option maxRecDepth 10000 in
/-- Settles O40: each of the eight mnemonics is in the branch table with its flag and sense. -/
theorem branchesTestOneFlag : Obligations.BranchesTestOneFlag := by
  unfold Obligations.BranchesTestOneFlag
  exact ⟨branchInstr_of_test (hasRows_of rfl) (by decide), branchInstr_of_test (hasRows_of rfl) (by decide),
    branchInstr_of_test (hasRows_of rfl) (by decide), branchInstr_of_test (hasRows_of rfl) (by decide),
    branchInstr_of_test (hasRows_of rfl) (by decide), branchInstr_of_test (hasRows_of rfl) (by decide),
    branchInstr_of_test (hasRows_of rfl) (by decide), branchInstr_of_test (hasRows_of rfl) (by decide)⟩

/-! ## Jumps -/

/-- An indirect jump's only bus accesses are the two reads of its pointer (rule R189). -/
theorem exec_jmpInd (ptr : Word) (s : State) :
    exec (.jmpInd ptr) s = ((memRead (s.pc - 3) ptr s).bind fun lo s1 =>
      (memRead (s.pc - 3) (ptr.extractLsb' 8 8 ++ (ptr.extractLsb' 0 8 + 1)) s1).bind fun hi s2 =>
        .ok () { s2 with pc := hi ++ lo, cyc := s2.cyc + 5 }).toOutcome := by
  have start : startPc (.jmpInd ptr) s = s.pc - 3 := rfl
  have run : exec (.jmpInd ptr) s = runJump (.jmpInd ptr) (.indirect ptr) s := rfl
  rw [run, runJump, resolve, start, pageWrapNext_eq]
  cases memRead (s.pc - 3) ptr s with
  | fault e left => rfl
  | ok lo s1 =>
    simp only [Result.bind_ok]
    cases memRead (s.pc - 3) (ptr.extractLsb' 8 8 ++ (ptr.extractLsb' 0 8 + 1)) s1 with
    | fault e left => rfl
    | ok hi s2 =>
      simp only [Result.bind_ok, wordOf_eq_append]
      rfl

set_option maxRecDepth 10000 in
/-- Settles O41: the absolute operand needs no access; the indirect one is two reads, of which the first faults where
the pointer is unmapped. -/
theorem jmpLoadsPc : Obligations.JmpLoadsPc := by
  unfold Obligations.JmpLoadsPc
  refine ⟨hasRows_of rfl, fun addr s => rfl, fun ptr lo hi s s1 s2 low high => ?_, fun ptr s lo hi => ?_⟩
  · rw [exec_jmpInd, low, Result.bind_ok, high, Result.bind_ok, Result.toOutcome_ok]
  · rw [exec_jmpInd, memRead_unmapped lo hi]
    exact toOutcome_bind_busFault (i := .jmpInd ptr) .read ptr s _

/-! ## The instructions on the stack -/

/-- An instruction on the stack is its effect, then the charge. -/
theorem exec_stack {i : Instr} {s : State} {effect : Word → State → Result Unit}
    (hh : handlerOf i.mnemonic = .stack effect) :
    exec i s = ((effect (startPc i s) s).bind fun _ t => .ok () (charge i false 0 t)).toOutcome := by
  have takes := handler_takes i
  rw [hh] at takes
  rw [exec_eq_perform, perform, hh, operand_eq_implied_of_mode (eq_of_beq takes)]
  rfl

/-- JSR (rule R290). -/
theorem exec_jsr (addr : Word) (s : State) : exec (.jsr addr) s = .next
    { (s.pushed ((s.pc - 1).extractLsb' 8 8)).pushed ((s.pc - 1).extractLsb' 0 8) with
      pc := addr, cyc := s.cyc + 6 } := by
  have run : exec (.jsr addr) s = runStack (.jsr addr) (jsrEffect addr) s := rfl
  rw [run, runStack, jsrEffect, push16_eq, highByte_eq, lowByte_eq]
  rfl

/-- RTS (rule R291). -/
theorem exec_rts (s : State) : exec .rts s = .next
    { s with pc := (s.stackByte 2 ++ s.stackByte 1) + 1, sp := s.sp + 2, cyc := s.cyc + 6 } := by
  rw [exec_stack (effect := rtsEffect) rfl, rtsEffect, pull16_eq, wordOf_eq_append]
  rfl

/-- BRK with a readable vector (rule R292). -/
theorem exec_brk {s : State} {w : Word} (h : s.vector 0xFFFE = some w) : exec .brk s = .next
    { ((s.pushed ((s.pc + 1).extractLsb' 8 8)).pushed ((s.pc + 1).extractLsb' 0 8)).pushed (s.p ||| 0x30) with
      p := setFlag maskI true s.p, pc := w, cyc := s.cyc + 7 } := by
  rw [exec_stack (effect := brkEffect) rfl, brkEffect,
    enterInterrupt_of_vector (vector := irqVector) _ _ _ (by decide) (by decide) h]
  rfl

/-- RTI (rule R293). -/
theorem exec_rti (s : State) : exec .rti s = .next
    { s with
      p := (s.stackByte 1 &&& 0xCF) ||| 0x20, pc := s.stackByte 3 ++ s.stackByte 2, sp := s.sp + 3
      cyc := s.cyc + 6 } := by
  rw [exec_stack (effect := rtiEffect) rfl, rtiEffect, returnFromInterrupt_eq, wordOf_eq_append]
  rfl

/-- PHA (45_stack_flags.md rule R300). -/
theorem exec_pha (s : State) : exec .pha s = .next { s.pushed s.a with cyc := s.cyc + 3 } := by
  rw [exec_stack (effect := phaEffect) rfl, phaEffect, push_eq]
  rfl

/-- PLA (rule R302). -/
theorem exec_pla (s : State) : exec .pla s = .next
    { s with a := s.stackByte 1, p := setNZ (s.stackByte 1) s.p, sp := s.sp + 1, cyc := s.cyc + 4 } := by
  rw [exec_stack (effect := plaEffect) rfl, plaEffect, pull_eq]
  rfl

set_option maxRecDepth 10000 in
/-- Settles O42: a push and a pull reach RAM alone and never fault. -/
theorem jsrPushesAndRtsPulls : Obligations.JsrPushesAndRtsPulls := by
  unfold Obligations.JsrPushesAndRtsPulls
  exact ⟨hasRows_of rfl, hasRows_of rfl, exec_jsr, exec_rts⟩

set_option maxRecDepth 10000 in
/-- Settles O43: BRK is the shared interrupt entry through $FFFE, RTI the shared return. -/
theorem brkEntersAndRtiReturns : Obligations.BrkEntersAndRtiReturns := by
  unfold Obligations.BrkEntersAndRtiReturns
  exact ⟨hasRows_of rfl, hasRows_of rfl, fun _ _ => exec_brk, exec_rti⟩

/-! ## NOP -/

set_option maxRecDepth 10000 in
/-- A NOP with no address has two base cycles (rules R294, R329). -/
theorem baseCycles_of_nop {i : Instr} (hm : i.mnemonic = .nop)
    (ho : i.operand.mode = .implied ∨ i.operand.mode = .immediate) : i.entry.baseCycles = 2 := by
  obtain ⟨slot, hs, row⟩ := mem_opcodeMap i
  have two : opcodeMap.all (fun slot => decide ((slotRow slot).1 = .nop ∧
      ((slotRow slot).2.2.1 = .implied ∨ (slotRow slot).2.2.1 = .immediate) → (slotRow slot).2.2.2.1 = 2)) = true := by
    decide
  have := of_decide_eq_true (List.all_eq_true.mp two slot hs)
  rw [row] at this
  exact this ⟨hm, ho⟩

/-- A NOP with no address charges two cycles. -/
theorem exec_nop_noAddress {i : Instr} (hm : i.mnemonic = .nop)
    (ho : i.operand.mode = .implied ∨ i.operand.mode = .immediate) (s : State) :
    exec i s = .next { s with cyc := s.cyc + 2 } := by
  have two : charge i false 0 s = { s with cyc := s.cyc + 2 } := by
    rw [charge, stepCycles, baseCycles_of_nop hm ho, Bool.and_false]
    rfl
  rw [exec_of_mnemonic hm, ← two]
  rcases ho with implied | immediate
  · rw [operand_eq_implied_of_mode implied]
    rfl
  · obtain ⟨b, ho⟩ := operand_eq_immediate_of_mode immediate
    rw [ho]
    rfl

/-- A NOP with an effective address resolves it and makes no access there (rule R329). -/
theorem exec_nop_address {i : Instr} {s : State} {r : Resolved} (hm : i.mnemonic = .nop)
    (ha : operandAddress i s = some r) : exec i s = .next (charge i r.crossed 0 s) := by
  obtain ⟨m, ho, hd⟩ := operandAddress_eq_some ha
  have skips : (handlerOf .nop).run i (.mem m) s = runSkip i m s := rfl
  rw [exec_of_mnemonic hm, ho, skips, runSkip, resolve_of_dataAddress hd, Result.bind_ok, Result.toOutcome_ok]

set_option maxRecDepth 10000 in
/-- Settles O44: by whether the operand has an effective address. -/
theorem nopsChangeNothingButCyc : Obligations.NopsChangeNothingButCyc := by
  unfold Obligations.NopsChangeNothingButCyc
  exact ⟨hasRows_of rfl, fun i s hm => ⟨fun ho => exec_nop_noAddress hm ho s, fun _ => exec_nop_address hm⟩⟩

/-! ## Round trips -/

/-- RTI forces bits 5 and 4, so what BRK set there does not matter (rules R292, R293). -/
theorem pulledP_pushedByInstruction (p : Byte) : pulledP (pushedByInstruction p) = pulledP p := by
  revert p; decide

theorem pla_undoes_pha {s : State} (h : s.ram.wf 0x800 = true) :
    ∃ t u, exec .pha s = .next t ∧ exec .pla t = .next u ∧ u.a = s.a ∧ u.sp = s.sp :=
  ⟨_, _, exec_pha s, exec_pla _, stackByte_pushed h s.a, BitVec.sub_add_cancel s.sp 1⟩

theorem rts_undoes_jsr {s : State} (h : s.ram.wf 0x800 = true) (addr : Word) :
    ∃ t u, exec (.jsr addr) s = .next t ∧ exec .rts t = .next u ∧ u.pc = s.pc ∧ u.sp = s.sp := by
  refine ⟨_, _, exec_jsr addr s, exec_rts _, ?_, ?_⟩
  · exact (congrArg (· + 1) (pushed_word_pulled h (s.pc - 1))).trans (BitVec.sub_add_cancel s.pc 1)
  · change s.sp - 1 - 1 + 2 = s.sp
    bv_omega

theorem rti_undoes_brk {s : State} (h : s.ram.wf 0x800 = true) (hc : s.cart.isSome = true) :
    ∃ t u, exec .brk s = .next t ∧ exec .rti t = .next u ∧ u.pc = s.pc + 1 ∧ u.sp = s.sp ∧
      u.p = (s.p &&& 0xCF) ||| 0x20 := by
  obtain ⟨c, hc⟩ := Option.isSome_iff_exists.mp hc
  have readable : s.vector 0xFFFE = some _ := (vector_prg s (by decide) (by decide)).trans (congrArg _ hc)
  have pcPushed : ((s.pushed ((s.pc + 1).extractLsb' 8 8)).pushed ((s.pc + 1).extractLsb' 0 8)).ram.wf 0x800 = true :=
    pushed_ramWf (pushed_ramWf h _) _
  refine ⟨_, _, exec_brk readable, exec_rti _, ?_, ?_, ?_⟩
  · have byte {n : Nat} := stackByte_succ_pushed pcPushed (s.p ||| 0x30) (n := n)
    exact (congrArg₂ (· ++ ·) (byte (by decide) (by decide)) (byte (by decide) (by decide))).trans
      (pushed_word_pulled h (s.pc + 1))
  · change s.sp - 1 - 1 - 1 + 3 = s.sp
    bv_omega
  · exact (congrArg pulledP (stackByte_pushed pcPushed (s.p ||| 0x30))).trans (pulledP_pushedByInstruction s.p)

/-- Settles O47: each pull reads the slots the push before it filled. -/
theorem stackRoundTrips : Obligations.StackRoundTrips := by
  unfold Obligations.StackRoundTrips
  exact fun s h => ⟨pla_undoes_pha h, rts_undoes_jsr h, rti_undoes_brk h⟩

end Sys2Proof.Machine
end

section
/-! SUPPORT. Pushes and pulls of A and P and the flag instructions (45_stack_flags.md rules R300 to R310). -/

namespace Sys2Proof.Machine

/-! ## Pushes and pulls -/

/-- PHP (rule R301). -/
theorem exec_php (s : State) : exec .php s = .next { s.pushed (s.p ||| 0x30) with cyc := s.cyc + 3 } := by
  rw [exec_stack (effect := phpEffect) rfl, phpEffect, push_eq]
  rfl

/-- PLP (rule R303). -/
theorem exec_plp (s : State) : exec .plp s = .next
    { s with p := (s.stackByte 1 &&& 0xCF) ||| 0x20, sp := s.sp + 1, cyc := s.cyc + 4 } := by
  rw [exec_stack (effect := plpEffect) rfl, plpEffect, pull_eq]
  rfl

set_option maxRecDepth 10000 in
/-- Settles O45: a push and a pull reach RAM alone and never fault. -/
theorem pushesAndPulls : Obligations.PushesAndPulls := by
  unfold Obligations.PushesAndPulls
  exact ⟨hasRows_of rfl, hasRows_of rfl, hasRows_of rfl, hasRows_of rfl,
    fun s => ⟨exec_pha s, exec_php s, exec_pla s, exec_plp s⟩⟩

/-! ## Flag instructions -/

section
variable {m : Mnemonic} {rows : List MapRow} {mask : Byte} (hr : HasRows m rows)
include hr

/-- An instruction that sets a flag ORs the flag's mask into P. -/
theorem registerInstr_of_setsFlag (hh : handlerOf m = .implied (State.setFlag mask true)) :
    RegisterInstr m rows fun s => { s with p := s.p ||| mask } :=
  registerInstr_of_handler hr hh

/-- An instruction that clears a flag keeps the bits of P outside the flag's mask. -/
theorem registerInstr_of_clearsFlag {kept : Byte} (hk : ~~~mask = kept)
    (hh : handlerOf m = .implied (State.setFlag mask false)) :
    RegisterInstr m rows fun s => { s with p := s.p &&& kept } := by
  subst hk
  exact registerInstr_of_handler hr hh

end

set_option maxRecDepth 10000 in
/-- Settles O46: each mnemonic's handler sets or clears the flag of its rule, whose mask has one bit. -/
theorem flagInstructionsSetOneBit : Obligations.FlagInstructionsSetOneBit := by
  unfold Obligations.FlagInstructionsSetOneBit
  exact ⟨registerInstr_of_clearsFlag (mask := maskC) (hasRows_of rfl) (by decide) rfl,
    registerInstr_of_setsFlag (mask := maskC) (hasRows_of rfl) rfl,
    registerInstr_of_clearsFlag (mask := maskI) (hasRows_of rfl) (by decide) rfl,
    registerInstr_of_setsFlag (mask := maskI) (hasRows_of rfl) rfl,
    registerInstr_of_clearsFlag (mask := maskD) (hasRows_of rfl) (by decide) rfl,
    registerInstr_of_setsFlag (mask := maskD) (hasRows_of rfl) rfl,
    registerInstr_of_clearsFlag (mask := maskV) (hasRows_of rfl) (by decide) rfl⟩

end Sys2Proof.Machine
end

section
/-! SUPPORT. The combined read-modify-write opcodes (46_undocumented.md rules R320, R323 to R328): the second primitive
overwrites the N and Z that the first wrote, and reads neither. -/

namespace Sys2Proof.Machine

/-! ## N and Z written twice -/

/-- The later N and Z win. -/
theorem setNZ_setNZ (s : State) (v w : Byte) : (s.setNZ v).setNZ w = s.setNZ w := by
  refine congrArg (fun p => { s with p := p }) (BitVec.eq_of_getLsbD_eq fun k hk => ?_)
  simp only [State.setNZ_p, getLsbD_setNZ _ _ hk]
  split_ifs <;> rfl

/-- An update of a flag other than Z and N can be made before theirs. -/
theorem setNZ_setFlag (s : State) (v : Byte) (k : Fin 8) (on : Bool) (hZ : k ≠ 1 := by decide)
    (hN : k ≠ 7 := by decide) :
    (s.setNZ v).setFlag ((1 : Byte) <<< k.val) on = (s.setFlag ((1 : Byte) <<< k.val) on).setNZ v := by
  have sign := setFlag_comm hN on v.msb (setFlag maskZ (v == 0) s.p)
  have zero := congrArg (setFlag maskN v.msb) (setFlag_comm hZ on (v == 0) s.p)
  exact congrArg (fun p => { s with p := p }) (sign.trans zero)

theorem carryIn_setNZ (v p : Byte) : carryIn (setNZ v p) = carryIn p := by
  rw [carryIn_eq, carryIn_eq, getLsbD_setNZ v p (by decide)]
  rfl

/-! ## The second primitives -/

/-- A primitive that writes N and Z without having read them. -/
def OverwritesNZ (effect : Byte → State → State) : Prop :=
  ∀ (v b : Byte) (s : State), effect b (s.setNZ v) = effect b s

/-- A result of A and the operand, loaded into A: ORA, AND and EOR (42_arith_logic.md rules R243 to R245). -/
theorem overwritesNZ_loadA (f : Byte → Byte → Byte) :
    OverwritesNZ fun b s => { s with a := f s.a b }.setNZ (f s.a b) :=
  fun v b s => setNZ_setNZ { s with a := f s.a b } v (f s.a b)

theorem overwritesNZ_cmpEffect : OverwritesNZ cmpEffect := by
  intro v b s
  have carry := setNZ_setFlag s v 0 (decide (b.toNat ≤ s.a.toNat))
  rw [cmpEffect, cmpEffect, compare_eq, compare_eq]
  exact (congrArg (State.setNZ (s.a - b)) carry).trans (setNZ_setNZ ..)

/-- AddCore reads C, which SetNZ keeps, and writes it and V before N and Z (42_arith_logic.md rule R240). -/
theorem addCore_setNZ (s : State) (v m : Byte) : (s.setNZ v).addCore m = s.addCore m := by
  have sum : adderSum (s.setNZ v).a m (s.setNZ v).p = adderSum s.a m s.p :=
    congrArg (s.a.toNat + m.toNat + ·) (carryIn_setNZ v s.p)
  rw [addCore_eq_loadSum, addCore_eq_loadSum, sum]
  generalize adderSum s.a m s.p = sum
  have carry := setNZ_setFlag { s with a := BitVec.ofNat 8 sum } v 0 (decide (sum > 0xFF))
  have overflow := (congrArg (State.setFlag maskV (adderOverflow s.a m (BitVec.ofNat 8 sum))) carry).trans
    (setNZ_setFlag _ v 6 _)
  exact (congrArg (State.setNZ (BitVec.ofNat 8 sum)) overflow).trans (setNZ_setNZ ..)

theorem overwritesNZ_adcEffect : OverwritesNZ adcEffect := fun v b s => addCore_setNZ s v b

theorem overwritesNZ_sbcEffect : OverwritesNZ sbcEffect := fun v b s => addCore_setNZ s v (b ^^^ 0xFF)

/-! ## The composition -/

/-- A first primitive that ends by setting N and Z leaves no trace of them behind such a second one (rule R320). -/
theorem andThen_eq {value : Byte → State → Byte} {before second : Byte → State → State} (hs : OverwritesNZ second) :
    RmwOp.andThen ⟨value, before, State.setNZ⟩ second = ⟨value, before, second⟩ :=
  congrArg (RmwOp.mk value before) (funext₂ fun r s => hs r r s)

theorem rmwInstr_of_andThen {m : Mnemonic} {rows : List MapRow} {value : Byte → State → Byte}
    {before second : Byte → State → State} (hr : HasRows m rows)
    (hh : handlerOf m = .rmw (RmwOp.andThen ⟨value, before, State.setNZ⟩ second)) (hs : OverwritesNZ second) :
    RmwInstr m rows value before second :=
  rmwInstr_of_handler hr (hh.trans (congrArg Handler.rmw (andThen_eq hs)))

theorem shiftOp_andThen_congr {f g : Byte → Byte → Shifted} (second : Byte → State → State) (h : ∀ m p, f m p = g m p) :
    Handler.rmw ((shiftOp f).andThen second) = .rmw ((shiftOp g).andThen second) := by
  rw [funext₂ h]

/-! ## The obligation -/

set_option maxRecDepth 10000 in
/-- Settles O48: each mnemonic's handler is its first primitive, then a second one that overwrites N and Z; a rotate's
carry in is bit 0 of the old P, and a comparison's flags are those of the difference. -/
theorem combinedOpcodesRunTwoPrimitives : Obligations.CombinedOpcodesRunTwoPrimitives := by
  unfold Obligations.CombinedOpcodesRunTwoPrimitives
  have compares := funext₂ fun m s => compare_eq (State.a s) m s
  refine ⟨?dcp, ?isc, ?slo, ?rla, ?sre, ?rra⟩
  case dcp =>
    rw [← compares]
    exact rmwInstr_of_andThen (hasRows_of rfl) rfl overwritesNZ_cmpEffect
  case isc => exact rmwInstr_of_andThen (hasRows_of rfl) rfl overwritesNZ_sbcEffect
  case slo => exact rmwInstr_of_andThen (hasRows_of rfl) rfl (overwritesNZ_loadA (· ||| ·))
  case rla =>
    have rol := shiftOp_andThen_congr andEffect shiftRol_eq
    exact rmwInstr_of_andThen (hasRows_of rfl) rol (overwritesNZ_loadA (· &&& ·))
  case sre => exact rmwInstr_of_andThen (hasRows_of rfl) rfl (overwritesNZ_loadA (· ^^^ ·))
  case rra =>
    have ror := shiftOp_andThen_congr adcEffect shiftRor_eq
    exact rmwInstr_of_andThen (hasRows_of rfl) ror overwritesNZ_adcEffect

end Sys2Proof.Machine
end

section
/-! SUPPORT. The interrupt latch, the arbiter and the services (60_exceptions.md rules R350 to R353, R372, R373). -/

namespace Sys2Proof.Machine

/-! ## The latch -/

/-- A request leaves the latch at whatever the comparison of priorities gives. -/
theorem raise_of_latch {kind : Interrupt} {s : State} {latch : Option Interrupt}
    (h : (if priority (some kind) > priority s.irql then some kind else s.irql) = latch) :
    s.raise kind = { s with irql := latch } := by
  rw [State.raise_eq, h]

theorem raise_reset (s : State) : s.raise .reset = { s with irql := some .reset } := by
  refine raise_of_latch ?_
  cases s.irql with
  | none => rfl
  | some latched => cases latched <;> rfl

theorem raise_nmi (s : State) :
    s.raise .nmi = { s with irql := if s.irql = some .reset then some .reset else some .nmi } := by
  refine raise_of_latch ?_
  cases s.irql with
  | none => rfl
  | some latched => cases latched <;> rfl

theorem raise_irq (s : State) : s.raise .irq = { s with irql := if s.irql = none then some .irq else s.irql } := by
  refine raise_of_latch ?_
  cases s.irql with
  | none => rfl
  | some latched => cases latched <;> rfl

/-- Settles O10: the three requests by the request that is latched; the host's two operations raise one. -/
theorem latchKeepsTheHighestRequest : Obligations.LatchKeepsTheHighestRequest := by
  unfold Obligations.LatchKeepsTheHighestRequest
  refine ⟨raise_reset, raise_nmi, raise_irq, fun s c hc => ?_, fun _ => rfl⟩
  have request : warmReset s = .done (s.raise .reset) := by rw [warmReset, hc]
  rw [request, raise_reset]

theorem latchNmi_of_noRequest {s : State} (h : s.ppu.nmiReq = false) : latchNmi s = s := by
  rw [latchNmi, if_neg (Bool.eq_false_iff.mp h)]

theorem latchNmi_of_request {s : State} (h : s.ppu.nmiReq = true) : latchNmi s = { s with
    ppu := { s.ppu with nmiReq := false }
    irql := if s.irql = some .reset then some .reset else some .nmi } := by
  rw [latchNmi, if_pos h, raise_nmi]

/-- Settles O26: behind the ticks the console's part is the request's latching alone. -/
theorem nmiRequestIsLatchedAtStepEnd : Obligations.NmiRequestIsLatchedAtStepEnd := by
  unfold Obligations.NmiRequestIsLatchedAtStepEnd
  rintro before s t rfl
  exact ⟨latchNmi_of_noRequest, latchNmi_of_request⟩

/-! ## The arbiter -/

theorem flag_maskI (p : Byte) : flag maskI p = p.getLsbD 2 := flag_eq_getLsbD 2 p

/-- The arbiter lets an instruction run with nothing latched, or with an IRQ that I masks. -/
theorem arbitrate_eq_none_iff {s : State} :
    arbitrate s = none ↔ s.irql = none ∨ s.irql = some .irq ∧ s.p.getLsbD 2 = true := by
  rw [arbitrate, flag_maskI]
  cases s.irql with
  | none => simp
  | some latched => cases latched <;> simp

/-- The arbiter services what is latched, an IRQ only with I clear. -/
theorem arbitrate_eq_some_iff {s : State} {kind : Interrupt} :
    arbitrate s = some kind ↔ s.irql = some kind ∧ (kind = .irq → s.p.getLsbD 2 = false) := by
  rw [arbitrate, flag_maskI]
  cases s.irql with
  | none => simp
  | some latched => cases latched <;> cases kind <;> simp

theorem cpuStep_of_none {s : State} (h : arbitrate s = none) : cpuStep s = execFetched s := by
  rw [cpuStep, h]

theorem cpuStep_of_some {s : State} {kind : Interrupt} (h : arbitrate s = some kind) :
    cpuStep s = (service kind s).toOutcome := by
  rw [cpuStep, h]

/-- No instruction and no fetch touches the latch. -/
theorem execFetched_irql {s t : State} (h : execFetched s = .next t) : t.irql = s.irql := by
  unfold execFetched at h
  cases fetch : fetchInstr s with
  | fault e u => rw [fetch] at h; cases h
  | ok i u =>
    rw [fetch] at h
    obtain ⟨_, reads, -⟩ := fetchInstr_ok fetch
    obtain ⟨t1, _, keeps, rfl, -⟩ := exec_keeps h
    exact keeps.irql.trans reads.cpu.irql

/-! ## The services -/

/-- A service that is entered with I set, reads its vector and ends, leaves the latch empty and charges 7 cycles. -/
theorem endService_of_reads {s entered u : State} (pc : Word) (reads : ReadsOnly entered u)
    (hp : entered.p = setFlag maskI true s.p) (hcyc : entered.cyc = s.cyc) :
    (endService { u with pc := pc }).irql = none ∧ (endService { u with pc := pc }).p.getLsbD 2 = true ∧
      (endService { u with pc := pc }).cyc = s.cyc + 7 := by
  have flags : (setFlag maskI true s.p).getLsbD 2 = true := getLsbD_setFlag s.p true 2 (by decide)
  refine ⟨rfl, ?_, ?_⟩
  · rw [endService_p, reads.cpu.p, hp, flags]
  · rw [endService_cyc, reads.cpu.cyc, hcyc]

theorem service_ends {kind : Interrupt} {s t : State} (h : service kind s = .ok () t) :
    t.irql = none ∧ t.p.getLsbD 2 = true ∧ t.cyc = s.cyc + 7 := by
  have interrupt {vector : Word} (h : serviceInterrupt vector s = .ok () t) :
      t.irql = none ∧ t.p.getLsbD 2 = true ∧ t.cyc = s.cyc + 7 := by
    obtain ⟨u, pc, reads, rfl⟩ := serviceInterrupt_ok h
    exact endService_of_reads pc reads rfl rfl
  cases kind with
  | irq => exact interrupt h
  | nmi => exact interrupt h
  | reset =>
    obtain ⟨u, pc, reads, rfl⟩ := serviceReset_ok h
    exact endService_of_reads pc reads rfl rfl

/-- Settles O9: the arbiter's two answers, and what an instruction and a service leave in the latch. -/
theorem arbiterServicesOrExecutes : Obligations.ArbiterServicesOrExecutes := by
  unfold Obligations.ArbiterServicesOrExecutes
  refine fun s => ⟨fun waits => ?_, fun kind latched unmasked => ?_⟩
  · have cpu := cpuStep_of_none (arbitrate_eq_none_iff.mpr waits)
    exact ⟨cpu, fun t h => execFetched_irql (cpu.symm.trans h)⟩
  · have cpu := cpuStep_of_some (arbitrate_eq_some_iff.mpr ⟨latched, unmasked⟩)
    exact ⟨cpu, fun t h => service_ends (Result.toOutcome_eq_next.mp (cpu.symm.trans h))⟩

/-- A vector found in PRG is read without a side effect (20_memory.md rule R89). -/
theorem read16_of_vector {s : State} {a w : Word} (pc0 : Word) (lo : 0x8000 ≤ a.toNat) (hi : a.toNat < 0xFFFF)
    (h : s.vector a = some w) : read16 pc0 a s = .ok w s := by
  obtain ⟨c, hc, rfl⟩ := Option.map_eq_some_iff.mp ((vector_prg s lo hi).symm.trans h)
  exact read16_prg lo hi hc

theorem serviceReset_of_vector {s : State} {w : Word} (h : s.vector resetVector = some w) :
    serviceReset s = .ok () { s with
      sp := s.sp - 3, p := setFlag maskI true s.p, pc := w, irql := none, cyc := s.cyc + 7 } := by
  have found : State.vector { s.setFlag maskI true with sp := s.sp - 3 } resetVector = some w := h
  rw [serviceReset, read16_of_vector _ (by decide) (by decide) found]
  rfl

theorem serviceInterrupt_of_vector {s : State} {vector w : Word} (lo : 0x8000 ≤ vector.toNat)
    (hi : vector.toNat < 0xFFFF) (h : s.vector vector = some w) :
    serviceInterrupt vector s = .ok ()
      { ((s.pushed (s.pc.extractLsb' 8 8)).pushed (s.pc.extractLsb' 0 8)).pushed (pushedByInterrupt s.p) with
        p := setFlag maskI true s.p, pc := w, irql := none, cyc := s.cyc + 7 } := by
  rw [serviceInterrupt, enterInterrupt_of_vector _ _ _ lo hi h]
  rfl

/-- A running machine's step that services a request is the service, then the console's part. -/
theorem step_of_service {s t : State} {kind : Interrupt} (running : s.running = true)
    (taken : arbitrate s = some kind) (h : service kind s = .ok () t) : step s = .next (afterCpu s t) :=
  (step_running running).1 t ((cpuStep_of_some taken).trans (congrArg Result.toOutcome h))

/-- Settles O7: Reset is serviced whatever I is, and its vector is readable. -/
theorem resetServiceWritesOnlySPIAndPc : Obligations.ResetServiceWritesOnlySPIAndPc := by
  unfold Obligations.ResetServiceWritesOnlySPIAndPc
  intro s w running latched vector
  exact step_of_service running (arbitrate_eq_some_iff.mpr ⟨latched, nofun⟩) (serviceReset_of_vector vector)

/-- Settles O8: NMI is serviced whatever I is, IRQ with I clear, each through the shared entry with its own vector. -/
theorem interruptServicePushesPcAndFlags : Obligations.InterruptServicePushesPcAndFlags := by
  unfold Obligations.InterruptServicePushesPcAndFlags
  rintro s kind vec w running latched (⟨rfl, rfl⟩ | ⟨rfl, rfl, unmasked⟩) vector
  · exact step_of_service running (arbitrate_eq_some_iff.mpr ⟨latched, nofun⟩)
      (serviceInterrupt_of_vector (by decide) (by decide) vector)
  · exact step_of_service running (arbitrate_eq_some_iff.mpr ⟨latched, fun _ => unmasked⟩)
      (serviceInterrupt_of_vector (by decide) (by decide) vector)

end Sys2Proof.Machine
end

section
/-! SUPPORT. What a PPU tick does by the position it enters, and the frame's cadence (60_exceptions.md rules R360 to
R365). -/

namespace Sys2Proof.Machine

/-! ## A tick's events -/

theorem Ppu.advance_nmiReq (p : Ppu) : p.advance.nmiReq = p.nmiReq := by
  unfold Ppu.advance; split <;> rfl

theorem Ppu.advance_ctrl (p : Ppu) : p.advance.ctrl = p.ctrl := by
  unfold Ppu.advance; split <;> rfl

/-- A position other than (241, 1) and (261, 0) has no event. -/
theorem Ppu.events_of_quiet {p : Ppu} (h : ¬ (p.scanline = 241 ∧ p.dot = 1)) (h' : ¬ (p.scanline = 261 ∧ p.dot = 0)) :
    p.events = p := by
  rw [Ppu.events, if_neg h, if_neg h']

/-- Sprite flags are drawn on no line of the vertical blank, and on none under `never` (rule R364). -/
theorem drawSpriteFlags_of_blank {s : State}
    (h : s.params.spriteFlags = .never ∨ 241 ≤ s.ppu.scanline ∧ s.ppu.scanline ≤ 261) : drawSpriteFlags s = s := by
  unfold drawSpriteFlags
  split
  · rfl
  · next draws =>
    rw [draws] at h
    exact if_pos (h.resolve_left nofun)

/-- A drawn sprite flag is not VBlank and requests no NMI. -/
theorem drawSpriteFlags_keepsVBlank (s : State) : (drawSpriteFlags s).ppu.status.getLsbD 7 = s.ppu.status.getLsbD 7 ∧
    (drawSpriteFlags s).ppu.nmiReq = s.ppu.nmiReq := by
  have flag {on : Bool} {b : Byte} (hb : b.getLsbD 7 = false) : (if on then b else 0).getLsbD 7 = false := by
    split
    · exact hb
    · rfl
  unfold drawSpriteFlags
  split
  · exact ⟨rfl, rfl⟩
  split
  · exact ⟨rfl, rfl⟩
  · refine ⟨?_, rfl⟩
    rw [BitVec.getLsbD_or, BitVec.getLsbD_or, flag rfl, flag rfl, Bool.or_false, Bool.or_false]

/-- A tick enters the position `advance` gives. -/
theorem ppuTick_scanline (s : State) : (ppuTick s).ppu.scanline = s.ppu.advance.scanline :=
  congrArg Prod.snd (ppuTick_counters s)

theorem ppuTick_dot (s : State) : (ppuTick s).ppu.dot = s.ppu.advance.dot :=
  congrArg Prod.fst (ppuTick_counters s)

section
variable {s : State}

/-- Where no sprite flag is drawn, a tick is the advance and the position's event. -/
theorem ppuTick_of_blank (h : s.params.spriteFlags = .never ∨
    241 ≤ (ppuTick s).ppu.scanline ∧ (ppuTick s).ppu.scanline ≤ 261) : (ppuTick s).ppu = s.ppu.advance.events := by
  have entered : s.ppu.advance.events.scanline = (ppuTick s).ppu.scanline :=
    congrArg Prod.snd ((Ppu.events_counters _).trans (ppuTick_counters s).symm)
  rw [← entered] at h
  rw [ppuTick, drawSpriteFlags_of_blank h]

/-- The tick that enters (241, 1) sets VBlank and, if enabled, the NMI request (rules R361, R362). -/
theorem ppuTick_vblankStart (h : (ppuTick s).ppu.scanline = 241 ∧ (ppuTick s).ppu.dot = 1) :
    (ppuTick s).ppu.status = s.ppu.status ||| 0x80 ∧
      (ppuTick s).ppu.nmiReq = (s.ppu.nmiReq || s.ppu.ctrl.getLsbD 7) := by
  have blank := ppuTick_of_blank (s := s) (.inr (by omega))
  rw [ppuTick_scanline, ppuTick_dot] at h
  rw [blank, Ppu.events, if_pos h, Ppu.vblankStart, Ppu.advance_status, Ppu.advance_nmiReq, Ppu.advance_ctrl]
  exact ⟨rfl, rfl⟩

/-- The tick that enters (261, 0) clears the three status flags and leaves the request (rule R363). -/
theorem ppuTick_preRenderStart (h : (ppuTick s).ppu.scanline = 261 ∧ (ppuTick s).ppu.dot = 0) :
    (ppuTick s).ppu.status = s.ppu.status &&& 0x1F ∧ (ppuTick s).ppu.nmiReq = s.ppu.nmiReq := by
  have blank := ppuTick_of_blank (s := s) (.inr (by omega))
  rw [ppuTick_scanline, ppuTick_dot] at h
  rw [blank, Ppu.events, if_neg (by omega), if_pos h, Ppu.preRenderStart, Ppu.advance_status, Ppu.advance_nmiReq]
  exact ⟨rfl, rfl⟩

/-- Every other tick leaves VBlank and the request, and the status where no sprite flag is drawn. -/
theorem ppuTick_quiet (h : ¬ ((ppuTick s).ppu.scanline = 241 ∧ (ppuTick s).ppu.dot = 1))
    (h' : ¬ ((ppuTick s).ppu.scanline = 261 ∧ (ppuTick s).ppu.dot = 0)) :
    (ppuTick s).ppu.status.getLsbD 7 = s.ppu.status.getLsbD 7 ∧ (ppuTick s).ppu.nmiReq = s.ppu.nmiReq ∧
      (s.params.spriteFlags = .never ∨ 241 ≤ (ppuTick s).ppu.scanline ∧ (ppuTick s).ppu.scanline ≤ 261 →
        (ppuTick s).ppu.status = s.ppu.status) := by
  have blank := ppuTick_of_blank (s := s)
  rw [ppuTick_scanline, ppuTick_dot] at h h'
  have quiet := Ppu.events_of_quiet h h'
  obtain ⟨vblank, request⟩ := drawSpriteFlags_keepsVBlank { s with ppu := s.ppu.advance.events }
  refine ⟨vblank.trans ?_, request.trans ?_, fun noDraw => (congrArg Ppu.status (blank noDraw)).trans ?_⟩ <;>
    simp only [quiet, Ppu.advance_status, Ppu.advance_nmiReq]

end

/-- Settles O23: the tick at each of the two event positions, and everywhere else. -/
theorem tickEventsByPosition : Obligations.TickEventsByPosition := by
  unfold Obligations.TickEventsByPosition
  rintro s t rfl
  exact ⟨ppuTick_vblankStart, ppuTick_preRenderStart, ppuTick_quiet⟩

/-! ## The frame's cadence -/

theorem ppuTicks_succ (n : Nat) (s : State) : ppuTicks (n + 1) s = ppuTick (ppuTicks n s) := by
  induction n generalizing s with
  | zero => rfl
  | succ n ih => exact ih (ppuTick s)

theorem ppuTicks_ctrl (n : Nat) (s : State) : (ppuTicks n s).ppu.ctrl = s.ppu.ctrl := by
  obtain ⟨_, _, _, _, _, e⟩ := ppuTicks_eq n s
  rw [e]

/-- The place in the frame determines the counters. -/
theorem Ppu.InRange.at_iff {p : Ppu} (h : p.InRange) {line dot : Nat} (hd : dot ≤ 340) :
    p.scanline = line ∧ p.dot = dot ↔ p.framePosition = line * 341 + dot := by
  obtain ⟨range, -⟩ := h
  unfold Ppu.framePosition
  omega

/-- From (0, 0) the `n`-th tick of the frame enters the position `n` dots on. -/
theorem ppuTicks_at_iff {s : State} (hd : s.ppu.dot = 0) (hl : s.ppu.scanline = 0) (n : Nat) {line dot : Nat}
    (h : dot ≤ 340) : (ppuTicks n s).ppu.scanline = line ∧ (ppuTicks n s).ppu.dot = dot ↔
      n % frameDots = line * 341 + dot := by
  obtain ⟨range, position⟩ := ppuTicks_position (s := s) (by unfold Ppu.InRange; omega) n
  have origin : s.ppu.framePosition = 0 := by unfold Ppu.framePosition; omega
  rw [range.at_iff h, position, origin, Nat.zero_add]

/-- VBlank and the NMI request after each tick of a frame that starts at (0, 0) with neither. -/
theorem ppuTicks_vblank {s : State} {n : Nat} (hd : s.ppu.dot = 0) (hl : s.ppu.scanline = 0)
    (hv : s.ppu.status.getLsbD 7 = false) (hr : s.ppu.nmiReq = false) (hn : n ≤ 89342) :
    (ppuTicks n s).ppu.status.getLsbD 7 = decide (82182 ≤ n ∧ n < 82182 + 6819) ∧
    (ppuTicks n s).ppu.nmiReq = (s.ppu.ctrl.getLsbD 7 && decide (82182 ≤ n)) := by
  induction n with
  | zero => exact ⟨hv, hr.trans (Bool.and_false _).symm⟩
  | succ n ih =>
    obtain ⟨vblank, request⟩ := ih (by omega)
    have start := ppuTicks_at_iff hd hl (n + 1) (line := 241) (dot := 1) (by decide)
    have clear := ppuTicks_at_iff hd hl (n + 1) (line := 261) (dot := 0) (by decide)
    unfold frameDots at start clear
    rw [ppuTicks_succ] at start clear ⊢
    by_cases atStart : n + 1 = 82182
    · obtain ⟨status, req⟩ := ppuTick_vblankStart (start.mpr (by omega))
      have before : ¬ 82182 ≤ n := by omega
      have now : 82182 ≤ n + 1 := by omega
      constructor
      · rw [status, BitVec.getLsbD_or, decide_eq_true (by omega)]
        exact Bool.or_true _
      · rw [req, request, ppuTicks_ctrl, decide_eq_false before, decide_eq_true now, Bool.and_false, Bool.and_true,
          Bool.false_or]
    by_cases atClear : n + 1 = 89001
    · obtain ⟨status, req⟩ := ppuTick_preRenderStart (clear.mpr (by omega))
      constructor
      · rw [status, BitVec.getLsbD_and, decide_eq_false (by omega)]
        exact Bool.and_false _
      · rw [req, request]
        exact congrArg _ (decide_eq_decide.mpr (by omega))
    · obtain ⟨status, req, -⟩ := ppuTick_quiet (start.not.mpr (by omega)) (clear.not.mpr (by omega))
      constructor
      · rw [status, vblank]
        exact decide_eq_decide.mpr (by omega)
      · rw [req, request]
        exact congrArg _ (decide_eq_decide.mpr (by omega))

/-- Settles O24: the two event positions lie 82182 and 89001 dots into the frame, whose 89342 dots end at its start. -/
theorem vBlankLastsFromTick82182 : Obligations.VBlankLastsFromTick82182 := by
  unfold Obligations.VBlankLastsFromTick82182
  intro s n hd hl hv hr hn
  obtain ⟨vblank, request⟩ := ppuTicks_vblank hd hl hv hr hn
  refine ⟨vblank, request, ?_⟩
  rintro rfl
  exact (ppuTicks_at_iff hd hl 89342 (Nat.zero_le _)).mpr rfl

end Sys2Proof.Machine
end

section
/-! SUPPORT. Power-up and the step that follows it (70_reset_and_hazards.md rules R390 and R391). -/

namespace Sys2Proof.Machine

/-- Settles O11: the values are those `State.powerUp` lists; of the cartridge only CHR-RAM is emptied. -/
theorem powerUpLeavesTheListedValues : Obligations.PowerUpLeavesTheListedValues := by
  unfold Obligations.PowerUpLeavesTheListedValues
  intro s c hc
  have done : powerUp s = .done { State.powerUp s.params (some c) with draws := s.draws } := by rw [powerUp, hc]
  have cart : (State.powerUp s.params (some c)).cart = some (if c.chrIsRam then { c with chr := [] } else c) := rfl
  refine ⟨_, done, rfl, rfl, rfl, rfl, rfl, rfl, rfl, rfl, rfl, rfl, rfl, rfl, fun rom => ?_, fun ram => ⟨?_, ?_⟩⟩
  · exact cart.trans (congrArg some (if_neg (Bool.eq_false_iff.mp rom)))
  · exact cart.trans (congrArg some (if_pos ram))
  · exact Memory.read_nil

/-! ## Ticks before the vertical blank -/

/-- Sprite flags change the status and the draw counter alone, and neither under `never` (60_exceptions.md rule R364). -/
theorem drawSpriteFlags_eq (s : State) : ∃ (status : Byte) (draws : Nat),
    drawSpriteFlags s = { s with ppu := { s.ppu with status := status }, draws := draws } ∧
      (s.params.spriteFlags = .never → status = s.ppu.status ∧ draws = s.draws) := by
  unfold drawSpriteFlags
  split
  · exact ⟨_, _, rfl, fun _ => ⟨rfl, rfl⟩⟩
  · next draws =>
    have drawn : s.params.spriteFlags ≠ .never := by rw [draws]; exact nofun
    split
    · exact ⟨_, _, rfl, fun _ => ⟨rfl, rfl⟩⟩
    · exact ⟨_, _, rfl, fun never => absurd never drawn⟩

/-- A tick within a line above the vertical blank moves the dot, beside what sprite flags change. -/
theorem ppuTick_withinLine {s : State} (hl : s.ppu.scanline ≤ 240) (hd : s.ppu.dot < 340) :
    ppuTick s = drawSpriteFlags { s with ppu := { s.ppu with dot := s.ppu.dot + 1 } } := by
  have advance : s.ppu.advance = { s.ppu with dot := s.ppu.dot + 1 } := if_neg (by omega)
  rw [ppuTick, advance, Ppu.events_of_quiet (by dsimp only; omega) (by dsimp only; omega)]

theorem ppuTicks_withinLine {s : State} {n : Nat} (hl : s.ppu.scanline ≤ 240) (hd : s.ppu.dot + n ≤ 340) :
    ∃ (status : Byte) (draws : Nat), ppuTicks n s =
        { s with ppu := { s.ppu with dot := s.ppu.dot + n, status := status }, draws := draws } ∧
      (s.params.spriteFlags = .never → status = s.ppu.status ∧ draws = s.draws) := by
  induction n with
  | zero => exact ⟨_, _, rfl, fun _ => ⟨rfl, rfl⟩⟩
  | succ n ih =>
    obtain ⟨status, draws, ticks, never⟩ := ih (by omega)
    have room : s.ppu.dot + n < 340 := by omega
    rw [ppuTicks_succ, ticks, ppuTick_withinLine (by exact hl) (by exact room)]
    obtain ⟨status', draws', e, never'⟩ := drawSpriteFlags_eq { s with
      ppu := { s.ppu with dot := s.ppu.dot + n + 1, status := status }, draws := draws }
    refine ⟨status', draws', e, fun h => ?_⟩
    obtain ⟨hs, hd⟩ := never h
    obtain ⟨hs', hd'⟩ := never' h
    exact ⟨hs'.trans hs, hd'.trans hd⟩

/-! ## The first step -/

/-- What Reset's service makes of a machine just powered up. -/
def resetServiced (params : Params) (c : Cartridge) (w : Word) : State :=
  { State.powerUp params (some c) with sp := 0xFD, p := 0x24, pc := w, irql := none, cyc := 7 }

/-- Settles O12: the latched Reset is serviced for 7 cycles, whose 21 ticks stay within the first line. -/
theorem firstStepServicesReset : Obligations.FirstStepServicesReset := by
  unfold Obligations.FirstStepServicesReset
  intro params c w vector
  have flags : setFlag maskI true 0x20 = 0x24 := by decide
  have service : step (State.powerUp params (some c)) =
      .next (afterCpu (State.powerUp params (some c)) (resetServiced params c w)) := by
    rw [resetServiced, ← flags]
    exact resetServiceWritesOnlySPIAndPc _ w rfl rfl vector
  have elapsed : cyclesElapsed (State.powerUp params (some c)) (resetServiced params c w) = 7 :=
    (rfl : ((7 : BitVec 64) - 0).toNat = 7)
  have line : (resetServiced params c w).ppu.scanline ≤ 240 := Nat.zero_le 240
  have start : (resetServiced params c w).ppu.dot = 0 := rfl
  obtain ⟨status, draws, ticks, never⟩ := ppuTicks_withinLine (n := 3 * 7) line (by omega)
  refine ⟨status, draws, ?_, never⟩
  rw [service, afterCpu, elapsed, ticks, latchNmi_of_noRequest rfl]
  rfl

end Sys2Proof.Machine
end
